-- ==== Sys2Proof/Word.lean ====
section
/-! DEFINITION. The fixed widths of R2-CSM: the 16-bit operation word, the 18-bit response word, the 16-bit
output-action word (spec/30_encoding.md R90, R96, R100), and the 4-bit line codes, tones and digits
(spec/00_scope.md R7, spec/30_encoding.md R109, R115). -/

namespace Sys2Proof

/-- An operation word (R90, R91). -/
abbrev OpBits := BitVec 16

/-- A callback response word (R96). -/
abbrev RespBits := BitVec 18

/-- An output-action word (R100). -/
abbrev ActionBits := BitVec 16

/-- A 4-bit CAS line code, raw or masked (R115). -/
abbrev LineCode := BitVec 4

/-- A tone value: 1 to 15, or 0 for "no tone" and for the INVALID marker of a table entry (R29, R42). -/
abbrev Tone := BitVec 4

/-- A digit cell (R70, R109). -/
abbrev Digit := BitVec 4

/-- A timer duration in milliseconds (R43). -/
abbrev Millis := BitVec 32

end Sys2Proof
end

