-- ==== Sys2Proof/Config.lean ====
section
/-! DEFINITION. What the channel is bound to and never writes: the configuration CFG (spec/10_state.md R40 to R49), the
structural parameters CAP and NEST_MAX (spec/00_scope.md R7), the reference configuration ITU-REF
(spec/95_test_vectors.md section 1.2), and the model's one free value. -/

namespace Sys2Proof

/-- The eight named CAS signals, in the order of R27. "None" (15) is the absence of a signal, `Option Signal`. -/
inductive Signal where
  | idle | block | seize | seizeAck | clearBack | forcedRelease | clearForward | answer
  deriving DecidableEq, Repr

/-- The twelve named supervisory timers, in the order of R33. -/
inductive Timer where
  | seize | seizePersist | answer | answerDelay | doubleAnswer | setCallDown | meteringPulse
  | mfBackCycle | mfBackResumeCycle | mfFwdSafety | dtmfStartDial | casPersistenceCheck
  deriving DecidableEq, Repr

/-- `CFG.cas_code` (R41): one 4-bit code for each named signal. -/
structure CasCodes where
  idle : LineCode
  block : LineCode
  seize : LineCode
  seizeAck : LineCode
  clearBack : LineCode
  forcedRelease : LineCode
  clearForward : LineCode
  answer : LineCode
  deriving DecidableEq, Repr

/-- `CFG.ga` (R42): the Group A tones, the backward side's requests. -/
structure GroupA where
  requestNextDnisDigit : Tone
  requestDnisMinus1 : Tone
  requestDnisMinus2 : Tone
  requestDnisMinus3 : Tone
  requestAllDnisAgain : Tone
  requestNextAniDigit : Tone
  requestCategory : Tone
  requestCategoryAndChangeToGc : Tone
  requestChangeToG2 : Tone
  addressCompleteChargeSetup : Tone
  networkCongestion : Tone
  deriving DecidableEq, Repr

/-- `CFG.gb` (R42): the Group B tones, the backward side's decision. -/
structure GroupB where
  acceptCallWithCharge : Tone
  acceptCallNoCharge : Tone
  acceptCallSpecial : Tone
  busyNumber : Tone
  networkCongestion : Tone
  unallocatedNumber : Tone
  numberChanged : Tone
  lineOutOfOrder : Tone
  specialInfoTone : Tone
  deriving DecidableEq, Repr

/-- `CFG.gc` (R42): the Group C tones, the alternate backward requests. -/
structure GroupC where
  requestNextAniDigit : Tone
  requestChangeToG2 : Tone
  requestNextDnisDigitAndChangeToGa : Tone
  networkCongestion : Tone
  deriving DecidableEq, Repr

/-- `CFG.g1` (R42): the Group I tones that are not digits, the forward side's responses. -/
structure Group1 where
  noMoreDnisAvailable : Tone
  noMoreAniAvailable : Tone
  callerAniIsRestricted : Tone
  deriving DecidableEq, Repr

/-- `CFG.g2` (R42): the Group II tones, the forward side's categories. -/
structure Group2 where
  nationalSubscriber : Tone
  nationalPrioritySubscriber : Tone
  internationalSubscriber : Tone
  internationalPrioritySubscriber : Tone
  collectCall : Tone
  testEquipment : Tone
  deriving DecidableEq, Repr

/-- `CFG.timer` (R43): one duration for each named timer. -/
structure TimerTable where
  seize : Millis
  seizePersist : Millis
  answer : Millis
  answerDelay : Millis
  doubleAnswer : Millis
  setCallDown : Millis
  meteringPulse : Millis
  mfBackCycle : Millis
  mfBackResumeCycle : Millis
  mfFwdSafety : Millis
  dtmfStartDial : Millis
  casPersistenceCheck : Millis
  deriving DecidableEq, Repr

/-- CFG (R40 to R48). It is a field of the machine's state that no rule writes, so that every claim about every state
is a claim about every configuration (R6: "The model takes one argument, the configuration `CFG`"). -/
structure Cfg where
  /-- R41. -/
  casCode : CasCodes
  /-- R41: the bits that carry R2 semantics. -/
  r2Mask : LineCode
  /-- R41: the fixed bits outside the R2 mask. -/
  nonR2Bits : LineCode
  ga : GroupA
  gb : GroupB
  gc : GroupC
  g1 : Group1
  g2 : Group2
  timer : TimerTable
  /-- R44, the nine flags in its order. -/
  autoSeizeAck : Bool
  aniCanComeFirst : Bool
  forceUseMaxAni : Bool
  getAniFirst : Bool
  immediateAccept : Bool
  skipCategory : Bool
  doubleAnswer : Bool
  dialWithDtmf : Bool
  detectDtmf : Bool
  /-- R45. -/
  maxAni : BitVec 6
  maxDnis : BitVec 6
  /-- R46: no rule reads it. -/
  variantId : BitVec 8
  /-- R47. -/
  frIsSeizeAck : Bool
  /-- R48: forwarded to the DTMF transmitter, never read otherwise. -/
  dtmfOnMs : BitVec 16
  dtmfOffMs : BitVec 16
  deriving DecidableEq, Repr

namespace Config

/-- CAP (R7): the capacity of each digit buffer. Log entry 2. -/
def cap : Nat := 32

/-- NEST_MAX (R7): the depth of re-entrant operations accepted in callback responses. Log entry 2. -/
def nestMax : Nat := 1

/-- FREE VALUE: what a read of a digit cell at or beyond its length register gives (R70: such cells "hold no value";
spec/93_implementation_defined.md U11 "any value"). No rule makes such a read from reset (R79). The argument counts the
reads made so far, so no two of them are related. Log entry 6. -/
opaque unwrittenDigit : Nat → Digit

/-- D0's default line codes (R41), the only values of CFG the source gives besides the two masks. -/
def defaultCasCodes : CasCodes :=
  { idle := 0x8, block := 0xC, seize := 0x0, seizeAck := 0xC, clearBack := 0xC, forcedRelease := 0x0,
    clearForward := 0x8, answer := 0x4 }

/-- ITU-REF (spec/95_test_vectors.md section 1.2), the configuration `State.reset` is bound to. DESIGN CHOICE, log
entry 1: no rule depends on it, and `variantId`, `dtmfOnMs`, `dtmfOffMs`, which that section leaves out, are 0. -/
def ituRef : Cfg :=
  { casCode := defaultCasCodes
    r2Mask := 0xC
    nonR2Bits := 0x1
    ga := { requestNextDnisDigit := 1, requestDnisMinus1 := 2, requestDnisMinus2 := 7, requestDnisMinus3 := 8,
            requestAllDnisAgain := 0, requestNextAniDigit := 5, requestCategory := 5,
            requestCategoryAndChangeToGc := 0, requestChangeToG2 := 3, addressCompleteChargeSetup := 6,
            networkCongestion := 4 }
    gb := { acceptCallWithCharge := 6, acceptCallNoCharge := 7, acceptCallSpecial := 0, busyNumber := 3,
            networkCongestion := 4, unallocatedNumber := 5, numberChanged := 0, lineOutOfOrder := 8,
            specialInfoTone := 2 }
    gc := { requestNextAniDigit := 0, requestChangeToG2 := 0, requestNextDnisDigitAndChangeToGa := 0,
            networkCongestion := 0 }
    g1 := { noMoreDnisAvailable := 15, noMoreAniAvailable := 15, callerAniIsRestricted := 12 }
    g2 := { nationalSubscriber := 1, nationalPrioritySubscriber := 2, internationalSubscriber := 7,
            internationalPrioritySubscriber := 9, collectCall := 8, testEquipment := 3 }
    timer := { seize := 8000, seizePersist := 8000, answer := 60000, answerDelay := 150, doubleAnswer := 400,
               setCallDown := 2000, meteringPulse := 0, mfBackCycle := 5000, mfBackResumeCycle := 150,
               mfFwdSafety := 30000, dtmfStartDial := 500, casPersistenceCheck := 0 }
    autoSeizeAck := true
    aniCanComeFirst := false
    forceUseMaxAni := false
    getAniFirst := false
    immediateAccept := false
    skipCategory := false
    doubleAnswer := false
    dialWithDtmf := false
    detectDtmf := false
    maxAni := 10
    maxDnis := 4
    variantId := 0
    frIsSeizeAck := false
    dtmfOnMs := 0
    dtmfOffMs := 0 }

end Config

end Sys2Proof
end

