-- ==== Sys2Proof/Syntax.lean ====
section
/-! DEFINITION. The operations of R2-CSM: one constructor of `Instr` for each row of spec/opcode_table.json
(spec/30_encoding.md R91 to R94). -/

namespace Sys2Proof

/-- Accept (billing) modes, numbered in this order from 0 (R108). -/
inductive Mode where
  | charge | noCharge | special | unknown
  deriving DecidableEq, Repr

/-- Disconnect causes, numbered in this order from 0 (R108). -/
inductive Cause where
  | busyNumber | networkCongestion | unallocatedNumber | numberChanged | outOfOrder | unspecified
  | normalClearing | noAnswer | forcedRelease | glare
  deriving DecidableEq, Repr

/-- Caller categories, numbered in this order from 0 (R111). -/
inductive Category where
  | nationalSubscriber | nationalPrioritySubscriber | internationalSubscriber
  | internationalPrioritySubscriber | collectCall | testEquipment
  deriving DecidableEq, Repr

/-- The fields every operation word carries beside `op` and `arg` (R91, R94): the environment's answers to the fallible
collaborator calls, and the line code sampled at delivery. -/
structure Env where
  /-- Every MF or DTMF engine initialisation attempted in this operation fails. -/
  ierr : Bool
  /-- Every line write and tone-buffer flush attempted in this operation fails. -/
  werr : Bool
  /-- The line read fails. -/
  lerr : Bool
  /-- The raw line code. -/
  line : LineCode
  deriving DecidableEq, Repr

/-- The operations (R92). `arg` bits an operation ignores (R91, R93) are not operands. -/
inductive Instr where
  | line (env : Env)
  | toneOn (tone : Tone) (env : Env)
  | toneOff (env : Env)
  | dtmfDigit (digit : Digit) (env : Env)
  | timerExpSeize (env : Env)
  | timerExpSeizePersist (env : Env)
  | timerExpAnswer (env : Env)
  | timerExpAnswerDelay (env : Env)
  | timerExpDoubleAnswer (env : Env)
  | timerExpSetCallDown (env : Env)
  | timerExpMeteringPulse (env : Env)
  | timerExpMfBackCycle (env : Env)
  | timerExpMfBackResumeCycle (env : Env)
  | timerExpMfFwdSafety (env : Env)
  | timerExpDtmfStartDial (env : Env)
  | timerExpCasPersistenceCheck (env : Env)
  | makeCall (category : Category) (restricted : Bool) (env : Env)
  | acceptCall (mode : Mode) (env : Env)
  | answerCall (env : Env)
  | answerCallMode (double : Bool) (env : Env)
  | disconnectCall (cause : Cause) (env : Env)
  | ackCall (env : Env)
  | setIdle (env : Env)
  | setBlocked (env : Env)
  | alarm (raised : Bool) (env : Env)
  | stageClr (env : Env)
  | stageAni (digit : Digit) (env : Env)
  | stageDnis (digit : Digit) (env : Env)
  deriving DecidableEq, Repr

end Sys2Proof
end

