-- ==== Sys2Proof/WellFormed.lean ====
section
/-! DEFINITION. Which operations and which configurations the spec admits. The operand ranges of
spec/30_encoding.md R93 for timers, causes and categories hold by the operands' types; the range of TONE_ON is the one
check left. For a configuration the conditions are those of spec/10_state.md R49. -/

namespace Sys2Proof

/-- R93: "TONE_ON with `arg = 0` is illegal (0 is "no tone")". -/
def toneWellFormed (t : Tone) : Bool := t != 0

/-- Whether an operation is one that a legal word can stand for (R92, R93). -/
def Instr.wf : Instr → Bool
  | .line _ => true
  | .toneOn t _ => toneWellFormed t
  | .toneOff _ => true
  | .dtmfDigit _ _ => true
  | .timerExpSeize _ => true
  | .timerExpSeizePersist _ => true
  | .timerExpAnswer _ => true
  | .timerExpAnswerDelay _ => true
  | .timerExpDoubleAnswer _ => true
  | .timerExpSetCallDown _ => true
  | .timerExpMeteringPulse _ => true
  | .timerExpMfBackCycle _ => true
  | .timerExpMfBackResumeCycle _ => true
  | .timerExpMfFwdSafety _ => true
  | .timerExpDtmfStartDial _ => true
  | .timerExpCasPersistenceCheck _ => true
  | .makeCall _ _ _ => true
  | .acceptCall _ _ => true
  | .answerCall _ => true
  | .answerCallMode _ _ => true
  | .disconnectCall _ _ => true
  | .ackCall _ => true
  | .setIdle _ => true
  | .setBlocked _ => true
  | .alarm _ _ => true
  | .stageClr _ => true
  | .stageAni _ _ => true
  | .stageDnis _ _ => true

/-- R49: the only conditions the model may assume of CFG. -/
def Cfg.wf (c : Cfg) : Bool :=
  decide (c.maxAni.toNat ≤ Config.cap) && decide (c.maxDnis.toNat ≤ Config.cap) && (c.r2Mask != 0)

end Sys2Proof
end

