-- ==== Sys2Proof/Decode.lean ====
section
/-! DEFINITION. The operation word: its fields (spec/30_encoding.md R91), the operation numbers (R92), the operand ranges
(R93) and what makes a word illegal (R95); the encoder of the same tables; and the host's numbering of a table word. -/

namespace Sys2Proof

/-- The fields of format OPW (R91). -/
structure OpFields where
  op : BitVec 5
  arg : BitVec 4
  ierr : Bool
  werr : Bool
  lerr : Bool
  line : LineCode
  deriving DecidableEq, Repr

/-- Why a word is illegal (R93, R95). -/
inductive IllegalWord where
  /-- R95: `op` is not one of the numbers of R92. -/
  | unlistedOp
  /-- R93: TONE_ON with tone 0. -/
  | toneZero
  /-- R93: TIMER_EXP with a timer number 12 to 15. -/
  | timerOutOfRange
  /-- R93: MAKE_CALL with category index 6 or 7. -/
  | categoryOutOfRange
  /-- R93: DISCONNECT_CALL with a cause number 10 to 15. -/
  | causeOutOfRange
  deriving DecidableEq, Repr

/-- What a word decodes to. -/
inductive Decoded where
  | instr (i : Instr)
  | illegal (why : IllegalWord)
  deriving DecidableEq, Repr

/-- R91: bits 15:11 `op`, 10:7 `arg`, 6 `ierr`, 5 `werr`, 4 `lerr`, 3:0 `line`. -/
def unpackWord (w : OpBits) : OpFields :=
  { op := w.extractLsb' 11 5
    arg := w.extractLsb' 7 4
    ierr := w.getLsbD 6
    werr := w.getLsbD 5
    lerr := w.getLsbD 4
    line := w.extractLsb' 0 4 }

/-- The inverse of `unpackWord` (R91). -/
def packWord (f : OpFields) : OpBits :=
  f.op ++ (f.arg ++ (BitVec.ofBool f.ierr ++ (BitVec.ofBool f.werr ++ (BitVec.ofBool f.lerr ++ f.line))))

/-- The environment fields of a word. -/
def OpFields.env (f : OpFields) : Env :=
  { ierr := f.ierr, werr := f.werr, lerr := f.lerr, line := f.line }

/-- R33: the number of a timer. -/
def Timer.index : Timer → Nat
  | .seize => 0
  | .seizePersist => 1
  | .answer => 2
  | .answerDelay => 3
  | .doubleAnswer => 4
  | .setCallDown => 5
  | .meteringPulse => 6
  | .mfBackCycle => 7
  | .mfBackResumeCycle => 8
  | .mfFwdSafety => 9
  | .dtmfStartDial => 10
  | .casPersistenceCheck => 11

/-- R108: the number of an accept mode. -/
def Mode.number : Mode → Nat
  | .charge => 0
  | .noCharge => 1
  | .special => 2
  | .unknown => 3

/-- R93, R108: ACCEPT_CALL reads `arg[1:0]` as the mode. -/
def modeOfArg (arg : BitVec 4) : Mode :=
  match (arg.extractLsb' 0 2).toNat with
  | 0 => .charge
  | 1 => .noCharge
  | 2 => .special
  | _ => .unknown

/-- R108: the number of a disconnect cause. -/
def Cause.number : Cause → Nat
  | .busyNumber => 0
  | .networkCongestion => 1
  | .unallocatedNumber => 2
  | .numberChanged => 3
  | .outOfOrder => 4
  | .unspecified => 5
  | .normalClearing => 6
  | .noAnswer => 7
  | .forcedRelease => 8
  | .glare => 9

/-- R93, R108: the cause with a number, if it has one. -/
def causeOfNumber : Nat → Option Cause
  | 0 => some .busyNumber
  | 1 => some .networkCongestion
  | 2 => some .unallocatedNumber
  | 3 => some .numberChanged
  | 4 => some .outOfOrder
  | 5 => some .unspecified
  | 6 => some .normalClearing
  | 7 => some .noAnswer
  | 8 => some .forcedRelease
  | 9 => some .glare
  | _ => none

/-- R111: the index of a category. -/
def Category.number : Category → Nat
  | .nationalSubscriber => 0
  | .nationalPrioritySubscriber => 1
  | .internationalSubscriber => 2
  | .internationalPrioritySubscriber => 3
  | .collectCall => 4
  | .testEquipment => 5

/-- R93, R111: the category with an index, if it has one. -/
def categoryOfNumber : Nat → Option Category
  | 0 => some .nationalSubscriber
  | 1 => some .nationalPrioritySubscriber
  | 2 => some .internationalSubscriber
  | 3 => some .internationalPrioritySubscriber
  | 4 => some .collectCall
  | 5 => some .testEquipment
  | _ => none

/-- R244: TIMER_EXP by timer number; 12 to 15 are illegal. -/
def decodeTimerExp (env : Env) : Nat → Decoded
  | 0 => .instr (.timerExpSeize env)
  | 1 => .instr (.timerExpSeizePersist env)
  | 2 => .instr (.timerExpAnswer env)
  | 3 => .instr (.timerExpAnswerDelay env)
  | 4 => .instr (.timerExpDoubleAnswer env)
  | 5 => .instr (.timerExpSetCallDown env)
  | 6 => .instr (.timerExpMeteringPulse env)
  | 7 => .instr (.timerExpMfBackCycle env)
  | 8 => .instr (.timerExpMfBackResumeCycle env)
  | 9 => .instr (.timerExpMfFwdSafety env)
  | 10 => .instr (.timerExpDtmfStartDial env)
  | 11 => .instr (.timerExpCasPersistenceCheck env)
  | _ => .illegal .timerOutOfRange

/-- R191: TONE_ON by tone; 0 is illegal (R93). -/
def decodeToneOn (tone : Tone) (env : Env) : Decoded :=
  if toneWellFormed tone then .instr (.toneOn tone env) else .illegal .toneZero

/-- R272: MAKE_CALL, category index in `arg[3:1]`, ani-restricted in `arg[0]`. -/
def decodeMakeCall (arg : BitVec 4) (env : Env) : Decoded :=
  match categoryOfNumber (arg.extractLsb' 1 3).toNat with
  | some category => .instr (.makeCall category (arg.getLsbD 0) env)
  | none => .illegal .categoryOutOfRange

/-- R285: DISCONNECT_CALL, cause in `arg`. -/
def decodeDisconnectCall (arg : BitVec 4) (env : Env) : Decoded :=
  match causeOfNumber arg.toNat with
  | some cause => .instr (.disconnectCall cause env)
  | none => .illegal .causeOutOfRange

/-- R92: the operation numbers. Every value of `op` not listed is illegal (R95). -/
def decodeOp (arg : BitVec 4) (env : Env) : Nat → Decoded
  | 0x01 => .instr (.line env)
  | 0x02 => decodeToneOn arg env
  | 0x03 => .instr (.toneOff env)
  | 0x04 => .instr (.dtmfDigit arg env)
  | 0x05 => decodeTimerExp env arg.toNat
  | 0x08 => decodeMakeCall arg env
  | 0x09 => .instr (.acceptCall (modeOfArg arg) env)
  | 0x0A => .instr (.answerCall env)
  | 0x0B => .instr (.answerCallMode (arg.getLsbD 0) env)
  | 0x0C => decodeDisconnectCall arg env
  | 0x0D => .instr (.ackCall env)
  | 0x0E => .instr (.setIdle env)
  | 0x0F => .instr (.setBlocked env)
  | 0x10 => .instr (.alarm (arg.getLsbD 0) env)
  | 0x11 => .instr (.stageClr env)
  | 0x12 => .instr (.stageAni arg env)
  | 0x13 => .instr (.stageDnis arg env)
  | _ => .illegal .unlistedOp

/-- The operation of a word from its fields. -/
def decodeFields (f : OpFields) : Decoded := decodeOp f.arg f.env f.op.toNat

/-- The operation a word stands for, or why it is illegal. Total on all 65536 words. -/
def decode (w : OpBits) : Decoded := decodeFields (unpackWord w)

/-! ### The encoder -/

/-- The fields of a word from the operation number, the operand and the environment. -/
def fieldsOf (op : BitVec 5) (arg : BitVec 4) (env : Env) : OpFields :=
  { op := op, arg := arg, ierr := env.ierr, werr := env.werr, lerr := env.lerr, line := env.line }

/-- TIMER_EXP of timer `t` (R244). -/
def timerFields (t : Timer) (env : Env) : OpFields := fieldsOf 0x05 (BitVec.ofNat 4 t.index) env

/-- The fields of the word for an operation (R92, R93). Ignored `arg` bits are 0. -/
def encodeFields : Instr → OpFields
  | .line env => fieldsOf 0x01 0 env
  | .toneOn tone env => fieldsOf 0x02 tone env
  | .toneOff env => fieldsOf 0x03 0 env
  | .dtmfDigit digit env => fieldsOf 0x04 digit env
  | .timerExpSeize env => timerFields .seize env
  | .timerExpSeizePersist env => timerFields .seizePersist env
  | .timerExpAnswer env => timerFields .answer env
  | .timerExpAnswerDelay env => timerFields .answerDelay env
  | .timerExpDoubleAnswer env => timerFields .doubleAnswer env
  | .timerExpSetCallDown env => timerFields .setCallDown env
  | .timerExpMeteringPulse env => timerFields .meteringPulse env
  | .timerExpMfBackCycle env => timerFields .mfBackCycle env
  | .timerExpMfBackResumeCycle env => timerFields .mfBackResumeCycle env
  | .timerExpMfFwdSafety env => timerFields .mfFwdSafety env
  | .timerExpDtmfStartDial env => timerFields .dtmfStartDial env
  | .timerExpCasPersistenceCheck env => timerFields .casPersistenceCheck env
  | .makeCall category restricted env =>
      fieldsOf 0x08 (BitVec.ofNat 3 category.number ++ BitVec.ofBool restricted) env
  | .acceptCall mode env => fieldsOf 0x09 (BitVec.ofNat 4 mode.number) env
  | .answerCall env => fieldsOf 0x0A 0 env
  | .answerCallMode double env => fieldsOf 0x0B (BitVec.ofNat 4 double.toNat) env
  | .disconnectCall cause env => fieldsOf 0x0C (BitVec.ofNat 4 cause.number) env
  | .ackCall env => fieldsOf 0x0D 0 env
  | .setIdle env => fieldsOf 0x0E 0 env
  | .setBlocked env => fieldsOf 0x0F 0 env
  | .alarm raised env => fieldsOf 0x10 (BitVec.ofNat 4 raised.toNat) env
  | .stageClr env => fieldsOf 0x11 0 env
  | .stageAni digit env => fieldsOf 0x12 digit env
  | .stageDnis digit env => fieldsOf 0x13 digit env

/-- The word for an operation. -/
def encode (i : Instr) : OpBits := packWord (encodeFields i)

/-! ### The host's numbering -/

/-- The operation read from a table word of `nbits` bits (the bits above them 0). An operation word is one 16-bit unit
(R77), so bit `k` of the table is bit `k` of the word. -/
def decodeTableWord (nbits w : Nat) : Option Instr :=
  match decode (BitVec.ofNat 16 (w % 2 ^ nbits)) with
  | .instr i => some i
  | .illegal _ => none

end Sys2Proof
end

