-- ==== Sys2Proof/Machine/State.lean ====
section
/-! DEFINITION. The state of one R2-CSM channel as plain data (spec/10_state.md R20 to R35, spec/20_memory.md R70 to R74),
the output actions (spec/30_encoding.md R100 to R108), the reset state (spec/70_reset_and_hazards.md R360, R361), and the
reasons a step can stop: the spec names none. -/

namespace Sys2Proof.Machine

/-- `cas_state` (R21). `unassigned k` is the register value 20 + k (k from 0 to 10). -/
inductive CasState where
  | init | idle | seizeRxd | seizeAckTxd | answerTxd | executingDoubleAnswer | clearBackTxd | clearForwardRxd
  | seizeTxd | seizeAckRxd | acceptRxd | answerRxdMfPending | answerRxd | clearBackRxd | forcedReleaseRxd
  | clearBackToneRxd | clearForwardTxd | doubleSeizure | doubleSeizureClearFwdPending | blocked | invalid
  | unassigned (k : Fin 11)
  deriving DecidableEq, Repr

/-- `mf_state` (R22). `unassigned k` is the register value 16 + k. -/
inductive MfState where
  | off | seizeAckTxd | categoryRqTxd | dnisRqTxd | aniRqTxd | chgGiiTxd | acceptedTxd | disconnectTxd
  | categoryTxd | dnisTxd | dnisEndTxd | aniTxd | aniEndTxd | waitingTimeout | dialingDtmf | detectingDtmf
  | unassigned (k : Fin 16)
  deriving DecidableEq, Repr

/-- `mf_group` (R23). `unassigned k` is the register value 11 + k. -/
inductive MfGroup where
  | noGroup | backInit | ga | gb | gc | fwdInit | gi | gii | giii | dtmfFwdInit | dtmfBackInit
  | unassigned (k : Fin 5)
  deriving DecidableEq, Repr

/-- `call_state` (R24). `unassigned` is the register value 7. -/
inductive CallState where
  | idle | collecting | dialing | offered | accepted | answered | disconnected | unassigned
  deriving DecidableEq, Repr

/-- `direction` (R25). `unassigned` is the register value 3. -/
inductive Direction where
  | stopped | forward | backward | unassigned
  deriving DecidableEq, Repr

/-- Error kinds, numbered in this order from 0 (R108, R330). No rule raises `answerTimeout` (conflict C4). -/
inductive ErrorKind where
  | invalidCasBits | invalidMfTone | invalidMfState | invalidMfGroup | invalidR2State | backMfTimeout
  | fwdSafetyTimeout | seizeTimeout | answerTimeout | brokenMfSequence | libraryBug | internalError | alarmRaised
  deriving DecidableEq, Repr

/-- The failed collaborator call an os-error event reports (R107, R336): codes 1, 2, 3. -/
inductive OsError where
  | lineRead | lineWrite | toneFlush
  deriving DecidableEq, Repr

/-- Status values (R106), numbered in this order from 0. -/
inductive Status where
  | ok | fail | ioError | ignored | badOp
  deriving DecidableEq, Repr

/-- Lifecycle events with their payloads (R107), numbered in this order from 0. No rule raises `callLogCreated` (U17). -/
inductive Event where
  | callInit
  | callOffered (category : Tone)
  | callAccepted (mode : Mode)
  | callAnswered
  | callProceed
  | callDisconnect (cause : Cause)
  | callEnd
  | lineIdle
  | lineBlocked
  | billingPulseReceived
  | callLogCreated
  | protocolError (kind : ErrorKind)
  | osError (what : OsError)
  | dnisDigitReceived (digit : Digit)
  | aniDigitReceived (digit : Digit)
  deriving DecidableEq, Repr

/-- Output actions (R100), numbered in this order from 0, each with all that the block hands to the collaborator: the
16-bit word carries the first operand only, the durations travel beside it (R43, R48, R100). -/
inductive Action where
  | status (s : Status)
  | evt (e : Event)
  | setLine (raw : LineCode)
  | flush
  | tone (t : Tone)
  | tmrArm (t : Timer) (ms : Millis)
  | tmrCancel (t : Timer)
  | mfInit (read : Bool)
  | mfDispose (read : Bool)
  | dtmfRxInit
  | dtmfTxInit
  | dtmfTiming (onMs offMs : BitVec 16)
  | dtmfPut (d : Digit)
  | logTx (sig : Signal) (raw : LineCode)
  | logRx (sig : Option Signal) (raw : LineCode)
  | logSnap (kind : ErrorKind)
  deriving DecidableEq, Repr

/-- One entry of the operation stream: a word and the response words that accompany it (R90, R96, R120). -/
structure Delivery where
  word : OpBits
  responses : List RespBits
  deriving DecidableEq, Repr

/-- The channel. INVENTORY.md names the rule of spec/ behind each field. -/
structure State where
  /-- CFG (R40): no rule writes it. -/
  cfg : Cfg
  /-- R21. -/
  casState : CasState
  /-- R22. -/
  mfState : MfState
  /-- R23. -/
  mfGroup : MfGroup
  /-- R24. -/
  callState : CallState
  /-- R25. -/
  direction : Direction
  /-- R27: a line code has been committed since reset or alarm. -/
  rxValid : Bool
  /-- R27: last committed sample, unmasked. -/
  rxRaw : LineCode
  /-- R27: the same, masked. -/
  rxCode : LineCode
  /-- R27: last received named signal, or None. -/
  rxSig : Option Signal
  /-- R27: last code written to the line. -/
  txRaw : LineCode
  /-- R27: the same, masked. -/
  txCode : LineCode
  /-- R27: last transmitted named signal, or None. -/
  txSig : Option Signal
  /-- R70: the ANI digits held; `ani_len` (R28) is its length. -/
  ani : List Digit
  /-- R70: the DNIS digits held; `dnis_len` (R28) is its length. -/
  dnis : List Digit
  /-- R70, R74: the ANI digits staged for the next MAKE_CALL. -/
  stageAni : List Digit
  /-- R70, R74: the DNIS digits staged for the next MAKE_CALL. -/
  stageDnis : List Digit
  /-- R28, R72: forward side, the DNIS digit last sent or due. -/
  dnisIndex : BitVec 6
  /-- R28, R73: forward side, the number of ANI digits already sent. -/
  aniPtr : BitVec 6
  /-- R29. -/
  mfWriteTone : Tone
  /-- R29. -/
  mfReadTone : Tone
  /-- R29. -/
  callerCategory : Tone
  /-- R30. -/
  aniRestricted : Bool
  /-- R30. -/
  answered : Bool
  /-- R30. -/
  categorySent : Bool
  /-- R30. -/
  alarm : Bool
  /-- R31. -/
  dnisDone : Bool
  /-- R31. -/
  aniDone : Bool
  /-- R31. -/
  acceptMode : Mode
  /-- R32. -/
  mfLive : Bool
  /-- R32. -/
  dtmfRxLive : Bool
  /-- R32. -/
  dtmfTxLive : Bool
  /-- R33: bit `t` is 1 while timer `t` is live. -/
  armed : BitVec 12
  /-- R34. -/
  pendingValid : Bool
  /-- R34. -/
  pendingCode : LineCode
  /-- The operation stream not yet delivered (R90). The environment's. -/
  input : List Delivery
  /-- The response words of the operation in progress not yet read (R96). The environment's. -/
  resp : List RespBits
  /-- The output trace of the last operation, in order (R100). -/
  out : List Action
  /-- The model's own: how many times a digit cell without a value was read. Log entry 6. -/
  freeReads : Nat
  deriving DecidableEq, Repr

/-- `ani_len` (R28). -/
def State.aniLen (s : State) : Nat := s.ani.length

/-- `dnis_len` (R28). -/
def State.dnisLen (s : State) : Nat := s.dnis.length

/-- `stage_ani_len` (R28). -/
def State.stageAniLen (s : State) : Nat := s.stageAni.length

/-- `stage_dnis_len` (R28). -/
def State.stageDnisLen (s : State) : Nat := s.stageDnis.length

/-- Reasons for a fault: none. The spec gives every word an effect in every state (R10, R95, R331, R336), so nothing
stops the machine and this type has no constructor. -/
inductive Fault where
  deriving DecidableEq, Repr

/-- Reasons for a refusal. -/
inductive Refusal where
  /-- Raised by an arm of `exec` for an operation without a meaning. No arm raises it. Safe. -/
  | notModelled (mnemonic : String)
  deriving DecidableEq, Repr

/-- The channel right after construction with configuration `cfg` (R360, R361). -/
def State.constructed (cfg : Cfg) : State :=
  { cfg := cfg
    casState := .init
    mfState := .off
    mfGroup := .noGroup
    callState := .idle
    direction := .stopped
    rxValid := false
    rxRaw := 0
    rxCode := 0
    rxSig := none
    txRaw := 0
    txCode := 0
    txSig := none
    ani := []
    dnis := []
    stageAni := []
    stageDnis := []
    dnisIndex := 0
    aniPtr := 0
    mfWriteTone := 0
    mfReadTone := 0
    callerCategory := 0
    aniRestricted := false
    answered := false
    categorySent := false
    alarm := false
    dnisDone := false
    aniDone := false
    acceptMode := .charge
    mfLive := false
    dtmfRxLive := false
    dtmfTxLive := false
    armed := 0
    pendingValid := false
    pendingCode := 0
    input := []
    resp := []
    out := []
    freeReads := 0 }

/-- The machine right after reset (R361), bound to ITU-REF (DESIGN CHOICE, log entry 1), with no word delivered. -/
def State.reset : State := State.constructed Config.ituRef

end Sys2Proof.Machine
end

