-- ==== Sys2Proof/Machine/Operands.lean ====
section
/-! DEFINITION. Operand forms: line codes (spec/10_state.md R41, spec/30_encoding.md R115), the decoding of a received code
by state (spec/40_line_events.md R135, R136), tones and digits (spec/30_encoding.md R110), the tone tables read by category,
mode and cause (R111, R200, R218, R276, R286), response words (R96), and the register codes of the enumerated state. -/

namespace Sys2Proof.Machine

/-! ### Line codes -/

/-- `CFG.cas_code[sig]` (R41). -/
def casCode (c : Cfg) : Signal → LineCode
  | .idle => c.casCode.idle
  | .block => c.casCode.block
  | .seize => c.casCode.seize
  | .seizeAck => c.casCode.seizeAck
  | .clearBack => c.casCode.clearBack
  | .forcedRelease => c.casCode.forcedRelease
  | .clearForward => c.casCode.clearForward
  | .answer => c.casCode.answer

/-- The bits of a sample that carry R2 semantics (R115). -/
def maskCode (c : Cfg) (raw : LineCode) : LineCode := raw &&& c.r2Mask

/-- `Code(sig)` (R41). -/
def code (c : Cfg) (sig : Signal) : LineCode := maskCode c (casCode c sig)

/-- `TxRaw(sig)` (R115). -/
def txRawOf (c : Cfg) (sig : Signal) : LineCode := (casCode c sig &&& c.r2Mask) ||| (c.nonR2Bits &&& ~~~c.r2Mask)

/-- `Classify(c)` (R135): a disconnect code and its cause, Clear-Back tested first. -/
def classify (c : Cfg) (r : LineCode) : Option (Signal × Cause) :=
  if r = code c .clearBack then some (.clearBack, .normalClearing)
  else if c.frIsSeizeAck = false ∧ r = code c .forcedRelease then some (.forcedRelease, .forcedRelease)
  else none

/-- The signal `Classify` names. -/
def classifiedSignal (c : Cfg) (r : LineCode) : Option Signal :=
  match classify c r with
  | some (sig, _) => some sig
  | none => none

/-- R136, row Init and Idle. -/
def decodeWhileIdle (c : Cfg) (r : LineCode) : Option Signal :=
  if r = code c .idle then some .idle
  else if r = code c .block then some .block
  else if r = code c .seize then some .seize
  else none

/-- R136, row Blocked. -/
def decodeWhileBlocked (c : Cfg) (r : LineCode) : Option Signal :=
  if r = code c .idle then some .idle
  else if r = code c .block then some .block
  else none

/-- R136, the rows that admit only Clear-Forward. -/
def decodeClearForward (c : Cfg) (r : LineCode) : Option Signal :=
  if r = code c .clearForward then some .clearForward else none

/-- R136, row SeizeTxd. -/
def decodeWhileSeizing (c : Cfg) (r : LineCode) : Option Signal :=
  if r = code c .seizeAck then some .seizeAck
  else if c.frIsSeizeAck = true ∧ r = code c .forcedRelease then some .seizeAck
  else if r = code c .seize then some .seize
  else none

/-- R136, row SeizeAckRxd, AcceptRxd, AnswerRxd. -/
def decodeAnswerOrClear (c : Cfg) (r : LineCode) : Option Signal :=
  if r = code c .answer then some .answer else classifiedSignal c r

/-- R136, row ClearForwardTxd. -/
def decodeWhileClearing (c : Cfg) (r : LineCode) : Option Signal :=
  if r = code c .idle then some .idle else classifiedSignal c r

/-- `Decode(state, c)` (R136). Invalid and unassigned states decode nothing (R158). -/
def decodeSignal (c : Cfg) (r : LineCode) : CasState → Option Signal
  | .init => decodeWhileIdle c r
  | .idle => decodeWhileIdle c r
  | .blocked => decodeWhileBlocked c r
  | .seizeRxd => decodeClearForward c r
  | .seizeAckTxd => decodeClearForward c r
  | .answerTxd => decodeClearForward c r
  | .executingDoubleAnswer => decodeClearForward c r
  | .clearBackTxd => decodeClearForward c r
  | .clearForwardRxd => none
  | .seizeTxd => decodeWhileSeizing c r
  | .seizeAckRxd => decodeAnswerOrClear c r
  | .acceptRxd => decodeAnswerOrClear c r
  | .answerRxd => decodeAnswerOrClear c r
  | .answerRxdMfPending => classifiedSignal c r
  | .clearBackRxd => classifiedSignal c r
  | .forcedReleaseRxd => classifiedSignal c r
  | .clearBackToneRxd => classifiedSignal c r
  | .clearForwardTxd => decodeWhileClearing c r
  | .doubleSeizure => decodeClearForward c r
  | .doubleSeizureClearFwdPending => none
  | .invalid => none
  | .unassigned _ => none

/-! ### Tones and digits -/

/-- `DigitTone(d)` (R110); 0 is INVALID. -/
def digitTone (d : Digit) : Tone := if d = 0 then 10 else if d ≤ 9 then d else 0

/-- `ToneDigit(t)` (R110): the digit a tone carries, if it carries one. -/
def toneDigit (t : Tone) : Option Digit :=
  if t = 0 then none else if t ≤ 9 then some t else if t = 10 then some 0 else none

/-- A digit an MF tone can carry (R110, R272). -/
def mfDigit (d : Digit) : Bool := decide (d ≤ 9)

/-- `CatTone(cat)` (R272): the Group II entry of a category. -/
def categoryTone (c : Cfg) : Category → Tone
  | .nationalSubscriber => c.g2.nationalSubscriber
  | .nationalPrioritySubscriber => c.g2.nationalPrioritySubscriber
  | .internationalSubscriber => c.g2.internationalSubscriber
  | .internationalPrioritySubscriber => c.g2.internationalPrioritySubscriber
  | .collectCall => c.g2.collectCall
  | .testEquipment => c.g2.testEquipment

/-- The entries of `CFG.g2` in R42's order. -/
def group2Tones (c : Cfg) : List Tone :=
  [c.g2.nationalSubscriber, c.g2.nationalPrioritySubscriber, c.g2.internationalSubscriber,
   c.g2.internationalPrioritySubscriber, c.g2.collectCall, c.g2.testEquipment]

/-- A tone that equals a non-INVALID entry of `CFG.g2` (R200, R205). -/
def isCategoryTone (c : Cfg) (t : Tone) : Bool := t != 0 && (group2Tones c).contains t

/-- `ModeOfTone(t)` (R218). -/
def modeOfTone (c : Cfg) (t : Tone) : Mode :=
  if t = c.gb.acceptCallWithCharge then .charge
  else if t = c.gb.acceptCallNoCharge then .noCharge
  else if t = c.gb.acceptCallSpecial then .special
  else .unknown

/-- The Group B entry of an accept mode before the fall-back of R276. -/
def acceptEntry (c : Cfg) : Mode → Tone
  | .charge => c.gb.acceptCallWithCharge
  | .noCharge => c.gb.acceptCallNoCharge
  | .special => c.gb.acceptCallSpecial
  | .unknown => c.gb.acceptCallWithCharge

/-- `AcceptTone(mode)` (R276): an INVALID entry falls back to the with-charge tone. -/
def acceptTone (c : Cfg) (m : Mode) : Tone :=
  if acceptEntry c m = 0 then c.gb.acceptCallWithCharge else acceptEntry c m

/-- The Group B entry of a cause before the fall-back of R286. -/
def causeEntry (c : Cfg) : Cause → Tone
  | .busyNumber => c.gb.busyNumber
  | .networkCongestion => c.gb.networkCongestion
  | .unallocatedNumber => c.gb.unallocatedNumber
  | .numberChanged => c.gb.numberChanged
  | .outOfOrder => c.gb.lineOutOfOrder
  | .unspecified => c.gb.busyNumber
  | .normalClearing => c.gb.busyNumber
  | .noAnswer => c.gb.busyNumber
  | .forcedRelease => c.gb.busyNumber
  | .glare => c.gb.busyNumber

/-- `CauseTone(cause)` (R286): an INVALID entry falls back to the busy tone. -/
def causeTone (c : Cfg) (k : Cause) : Tone := if causeEntry c k = 0 then c.gb.busyNumber else causeEntry c k

/-! ### Timers -/

/-- `CFG.timer[t]` (R43). -/
def duration (c : Cfg) : Timer → Millis
  | .seize => c.timer.seize
  | .seizePersist => c.timer.seizePersist
  | .answer => c.timer.answer
  | .answerDelay => c.timer.answerDelay
  | .doubleAnswer => c.timer.doubleAnswer
  | .setCallDown => c.timer.setCallDown
  | .meteringPulse => c.timer.meteringPulse
  | .mfBackCycle => c.timer.mfBackCycle
  | .mfBackResumeCycle => c.timer.mfBackResumeCycle
  | .mfFwdSafety => c.timer.mfFwdSafety
  | .dtmfStartDial => c.timer.dtmfStartDial
  | .casPersistenceCheck => c.timer.casPersistenceCheck

/-- The bit of a timer in `armed` (R33). -/
def timerBit (t : Timer) : BitVec 12 := 1#12 <<< t.index

/-! ### Response words -/

/-- `has_op` (R96). -/
def respHasOp (r : RespBits) : Bool := r.getLsbD 17

/-- `stop` (R96). -/
def respStop (r : RespBits) : Bool := r.getLsbD 16

/-- `op_word` (R96). -/
def respOpWord (r : RespBits) : OpBits := r.extractLsb' 0 16

/-! ### Register codes of the enumerated state -/

/-- R21. -/
def CasState.code : CasState → BitVec 5
  | .init => 0
  | .idle => 1
  | .seizeRxd => 2
  | .seizeAckTxd => 3
  | .answerTxd => 4
  | .executingDoubleAnswer => 5
  | .clearBackTxd => 6
  | .clearForwardRxd => 7
  | .seizeTxd => 8
  | .seizeAckRxd => 9
  | .acceptRxd => 10
  | .answerRxdMfPending => 11
  | .answerRxd => 12
  | .clearBackRxd => 13
  | .forcedReleaseRxd => 14
  | .clearBackToneRxd => 15
  | .clearForwardTxd => 16
  | .doubleSeizure => 17
  | .doubleSeizureClearFwdPending => 18
  | .blocked => 19
  | .invalid => 31
  | .unassigned k => BitVec.ofNat 5 (20 + k.val)

/-- R22. -/
def MfState.code : MfState → BitVec 5
  | .off => 0
  | .seizeAckTxd => 1
  | .categoryRqTxd => 2
  | .dnisRqTxd => 3
  | .aniRqTxd => 4
  | .chgGiiTxd => 5
  | .acceptedTxd => 6
  | .disconnectTxd => 7
  | .categoryTxd => 8
  | .dnisTxd => 9
  | .dnisEndTxd => 10
  | .aniTxd => 11
  | .aniEndTxd => 12
  | .waitingTimeout => 13
  | .dialingDtmf => 14
  | .detectingDtmf => 15
  | .unassigned k => BitVec.ofNat 5 (16 + k.val)

/-- R23. -/
def MfGroup.code : MfGroup → BitVec 4
  | .noGroup => 0
  | .backInit => 1
  | .ga => 2
  | .gb => 3
  | .gc => 4
  | .fwdInit => 5
  | .gi => 6
  | .gii => 7
  | .giii => 8
  | .dtmfFwdInit => 9
  | .dtmfBackInit => 10
  | .unassigned k => BitVec.ofNat 4 (11 + k.val)

/-- R24. -/
def CallState.code : CallState → BitVec 3
  | .idle => 0
  | .collecting => 1
  | .dialing => 2
  | .offered => 3
  | .accepted => 4
  | .answered => 5
  | .disconnected => 6
  | .unassigned => 7

/-- R25. -/
def Direction.code : Direction → BitVec 2
  | .stopped => 0
  | .forward => 1
  | .backward => 2
  | .unassigned => 3

end Sys2Proof.Machine
end

