-- ==== Sys2Proof/Machine/Flags.lean ====
section
/-! DEFINITION. Every condition the rules compute: the derived predicates of CFG (spec/10_state.md R49), the live bit of a
timer (R33), the choice of the backward side's next request (spec/41_tone_events.md R188), and the guards of the
call-control operations (spec/43_call_control.md R272, R276, R280, R286). -/

namespace Sys2Proof.Machine

/-! ### Derived predicates of CFG (R49) -/

/-- `ANI_FIRST`. -/
def aniFirst (c : Cfg) : Bool := c.getAniFirst && c.aniCanComeFirst

/-- `DTMF_OUT`. -/
def dtmfOut (c : Cfg) : Bool := c.dialWithDtmf

/-- `DEBOUNCE`. -/
def debounce (c : Cfg) : Bool := duration c .casPersistenceCheck != 0

/-- `METERING`. -/
def metering (c : Cfg) : Bool := duration c .meteringPulse != 0

/-! ### Timers -/

/-- `armed[t] = 1` (R33). -/
def isArmed (t : Timer) (s : State) : Bool := s.armed.getLsbD t.index

/-! ### The next request (R188) -/

/-- `want_dnis`. -/
def wantDnis (s : State) : Bool := !s.dnisDone

/-- `want_cat`. -/
def wantCategory (s : State) : Bool := !s.cfg.skipCategory && s.callerCategory == 0

/-- `want_ani`. -/
def wantAni (s : State) : Bool := !s.cfg.skipCategory && (s.cfg.maxAni != 0 && !s.aniDone)

/-- What `NextRequest` asks for. -/
inductive Wanted where
  | dnis | category | ani | finish
  deriving DecidableEq, Repr

/-- The order of the solicitations (R188): with ANI first, category and ANI come right after the first DNIS digit. -/
def nextWanted (s : State) : Wanted :=
  if aniFirst s.cfg = true ∧ 1 ≤ s.dnisLen then
    if wantCategory s then .category else if wantAni s then .ani else if wantDnis s then .dnis else .finish
  else
    if wantDnis s then .dnis else if wantCategory s then .category else if wantAni s then .ani else .finish

/-! ### The snapshot (R317) -/

/-- The four fields a callback's effect is judged by. -/
structure Snapshot where
  casState : CasState
  mfState : MfState
  mfGroup : MfGroup
  callState : CallState
  deriving DecidableEq, Repr

/-- The snapshot of a state. -/
def snapshot (s : State) : Snapshot :=
  { casState := s.casState, mfState := s.mfState, mfGroup := s.mfGroup, callState := s.callState }

/-! ### Guards of the call-control operations -/

/-- The part of MAKE_CALL's guard about the call's own digits and category (R272). -/
def dialable (category : Category) (s : State) : Bool :=
  s.cfg.dialWithDtmf ||
    (categoryTone s.cfg category != 0 && (s.stageAni.all mfDigit && s.stageDnis.all mfDigit))

/-- The guard of MAKE_CALL (R272). -/
def makeCallGuard (category : Category) (s : State) : Bool :=
  !s.alarm && decide (s.callState = .idle) && decide (s.casState = .idle) &&
    s.rxValid && decide (s.rxCode = code s.cfg .idle) &&
    decide (s.stageAniLen ≤ s.cfg.maxAni.toNat) && decide (s.stageDnisLen ≤ s.cfg.maxDnis.toNat) &&
    dialable category s

/-- The guard of ACCEPT_CALL (R276). -/
def acceptGuard (s : State) : Bool :=
  !s.alarm && decide (s.callState = .offered) && decide (s.direction = .backward) &&
    decide (s.casState = .seizeAckTxd) && decide (s.mfState ≠ .acceptedTxd) &&
    decide (s.mfState ≠ .disconnectTxd) && !isArmed .answerDelay s

/-- `AnswerGuard` (R280). -/
def answerGuard (s : State) : Bool :=
  !s.alarm && decide (s.direction = .backward) && decide (s.casState = .seizeAckTxd) &&
    (decide (s.callState = .accepted) || (decide (s.callState = .offered) && decide (s.mfGroup = .dtmfBackInit)))

/-- The guard of ACK_CALL (R275). -/
def ackGuard (s : State) : Bool := !s.alarm && decide (s.casState = .seizeRxd)

/-- R286: a disconnect-cause tone is due. -/
def causeToneDue (cause : Cause) (s : State) : Bool :=
  decide (s.callState = .offered) && s.mfLive && decide (s.mfGroup = .gb) && decide (s.mfState = .chgGiiTxd) &&
    (causeTone s.cfg cause != 0)

/-- R286: the line signal of a backward disconnect. -/
def backwardClearSignal (cause : Cause) (s : State) : Signal :=
  if (s.callState = .accepted ∨ s.callState = .answered) ∧ cause = .forcedRelease then .forcedRelease else .clearBack

/-- R285 row 2: a local disconnect is already in progress. -/
def disconnectInProgress (s : State) : Bool :=
  decide (s.casState = .clearBackTxd) || decide (s.casState = .clearForwardTxd) || decide (s.mfState = .disconnectTxd)

/-- The two glare states (R155, R251, R287). -/
def inGlare (s : State) : Bool :=
  decide (s.casState = .doubleSeizure) || decide (s.casState = .doubleSeizureClearFwdPending)

/-- `mf_group` names an own reply table of the forward side (R211). -/
def inForwardGroup (s : State) : Bool :=
  decide (s.mfGroup = .gi) || decide (s.mfGroup = .gii) || decide (s.mfGroup = .giii)

end Sys2Proof.Machine
end

