-- ==== Sys2Proof/Machine/Ops.lean ====
section
/-! DEFINITION. The named operations every rule is written with (spec/00_scope.md R9): the output trace, the timer arbiter
(spec/42_timer_events.md R241 to R243), line and tone writes (R134, R183), the engine handles (R184 to R186), the baseline
(R362), event delivery with re-entry (R316), I/O failure (R336, R338), and the error path (R331), which is this block's
exception entry.

What cannot fail and raises no event is a function `State → State`. What can end the operation or raise an event is an
`Act`. -/

namespace Sys2Proof.Machine

/-! ### Running a rule -/

/-- The whole top-level operation has ended; its STATUS is already in the trace (R331, R338). -/
inductive Halt where
  | operationEnded
  deriving DecidableEq, Repr

/-- A piece of a rule: it goes on with a value, or ends the whole top-level operation; what it wrote stands (R338). -/
abbrev Act (α : Type) := EStateM Halt State α

/-- What a rule knows of its operation: the environment fields of the top-level word (R94, R316), and how a word nested in
a response runs at this depth (R97, R316). -/
structure Ctx where
  env : Env
  reenter : OpBits → Act Unit

/-- The state as it stands. -/
def see : Act State := fun s => .ok s s

/-- A change of the state. -/
def upd (f : State → State) : Act Unit := fun s => .ok () (f s)

/-- The end of the whole top-level operation (R338). -/
def finish {α : Type} : Act α := fun s => .error .operationEnded s

/-- A statement that runs only under a condition. -/
def onlyIf (c : Bool) (m : Act Unit) : Act Unit := if c then m else pure ()

/-! ### The output trace -/

/-- `Out(a)` (R9). -/
def output (a : Action) (s : State) : State := { s with out := s.out ++ [a] }

/-- Several actions in order. -/
def outputs (as : List Action) (s : State) : State := { s with out := s.out ++ as }

/-- `Status(s)` (R106). -/
def status (st : Status) : Act Unit := upd (output (.status st))

/-! ### The timer arbiter -/

/-- Clear the bit of a timer: the instance is gone. -/
def disarm (t : Timer) (s : State) : State := { s with armed := s.armed &&& ~~~timerBit t }

/-- `Cancel(t)` (R242). -/
def cancel (t : Timer) (s : State) : State := if isArmed t s then disarm t (output (.tmrCancel t) s) else s

/-- The bit of a timer set and the scheduler told, with the configured duration (R241, R43). -/
def startTimer (t : Timer) (s : State) : State :=
  { s with armed := s.armed ||| timerBit t, out := s.out ++ [.tmrArm t (duration s.cfg t)] }

/-- `Arm(t)` (R241): a live prior instance is cancelled first. -/
def arm (t : Timer) (s : State) : State :=
  startTimer t (if isArmed t s then output (.tmrCancel t) s else s)

/-- `Cancel` of each timer of a list, in order. -/
def cancelEach : List Timer → State → State
  | [], s => s
  | t :: ts, s => cancelEach ts (cancel t s)

/-- Timers 0 to 10 (R243). -/
def callTimers : List Timer :=
  [.seize, .seizePersist, .answer, .answerDelay, .doubleAnswer, .setCallDown, .meteringPulse, .mfBackCycle,
   .mfBackResumeCycle, .mfFwdSafety, .dtmfStartDial]

/-- `CancelCallTimers()` (R243): the debounce timer is left alone. -/
def cancelCallTimers (s : State) : State := cancelEach callTimers s

/-- The pending debounce is forgotten. -/
def clearPending (s : State) : State := { s with pendingValid := false }

/-- `CancelAll()` (R243): timers 0 to 11 in order, then the pending debounce. -/
def cancelAll (s : State) : State := clearPending (cancel .casPersistenceCheck (cancelCallTimers s))

/-! ### Lifecycle events and re-entry -/

/-- The next word of the response stream, or all zeros (R96, R316). -/
def nextResponse : Act RespBits := fun s =>
  match s.resp with
  | [] => .ok 0 s
  | r :: rs => .ok r { s with resp := rs }

/-- `Emit(ev, p)` (R316): the event leaves, one response is read, and the operation it carries runs. -/
def emit (x : Ctx) (ev : Event) : Act RespBits := do
  upd (output (.evt ev))
  let r ← nextResponse
  onlyIf (respHasOp r) (x.reenter (respOpWord r))
  pure r

/-- `Emit` of an event whose response is not looked at. -/
def notify (x : Ctx) (ev : Event) : Act Unit := do
  let _ ← emit x ev
  pure ()

/-- `Emit` of an event followed by a state-bound action (R317): the response if the callback left the snapshot as it was,
none if it changed it and the rule must go no further. -/
def emitGuarded (x : Ctx) (ev : Event) : Act (Option RespBits) := do
  let before ← see
  let r ← emit x ev
  let after ← see
  pure (if snapshot after = snapshot before then some r else none)

/-! ### I/O failure -/

/-- A failed collaborator call (R336): os-error, STATUS IoError, and the whole top-level operation ends (R338). -/
def ioError {α : Type} (x : Ctx) (what : OsError) : Act α := do
  notify x (.osError what)
  status .ioError
  finish

/-- `GetLine()` (R78); on failure as R336. -/
def getLine (x : Ctx) : Act LineCode := if x.env.lerr then ioError x .lineRead else pure x.env.line

/-- A line code written, logged and recorded (R134). -/
def writeLine (sig : Signal) (s : State) : State :=
  { s with
    out := s.out ++ [.setLine (txRawOf s.cfg sig), .logTx sig (txRawOf s.cfg sig)]
    txRaw := txRawOf s.cfg sig
    txCode := maskCode s.cfg (txRawOf s.cfg sig)
    txSig := some sig }

/-- `TxSignal(sig)` (R134). -/
def txSignal (x : Ctx) (sig : Signal) : Act Unit :=
  if x.env.werr then ioError x .lineWrite else upd (writeLine sig)

/-- A tone, or silence, selected. -/
def putTone (t : Tone) (s : State) : State := { s with out := s.out ++ [.tone t], mfWriteTone := t }

/-- `SetTone(t)` (R183). -/
def setTone (x : Ctx) (t : Tone) : Act Unit := do
  let s ← see
  if t = s.mfWriteTone then pure ()
  else if t = 0 then upd (putTone 0)
  else if x.env.werr then ioError x .toneFlush
  else upd (fun s => putTone t (output .flush s))

/-! ### Engine handles and the baseline -/

/-- The actions of `MfRelease` (R185). -/
def releaseActions (s : State) : List Action :=
  if s.mfLive then (if s.mfWriteTone = 0 then [] else [.tone 0]) ++ [.mfDispose false, .mfDispose true] else []

/-- `MfRelease()` (R185): all three handles are released. Idempotent. -/
def mfRelease (s : State) : State :=
  { s with
    out := s.out ++ releaseActions s
    mfLive := false
    dtmfRxLive := false
    dtmfTxLive := false
    mfWriteTone := 0
    mfReadTone := 0 }

/-- The per-call registers at their baseline (R362), after the timers and the engines. -/
def clearCall (s : State) : State :=
  { s with
    ani := []
    dnis := []
    dnisIndex := 0
    aniPtr := 0
    callerCategory := 0
    aniRestricted := false
    answered := false
    categorySent := false
    dnisDone := false
    aniDone := false
    acceptMode := .charge
    mfState := .off
    mfGroup := .noGroup
    callState := .idle
    direction := .stopped
    casState := .idle }

/-- `ResetBaseline()` (R362). -/
def resetBaseline (s : State) : State := clearCall (mfRelease (cancelAll s))

/-! ### The error path -/

/-- The Idle of the error path (R331): a line that cannot be written is reported and the path goes on. -/
def errorIdle (x : Ctx) : Act Unit :=
  if x.env.werr then notify x (.osError .lineWrite) else upd (writeLine .idle)

/-- `ErrorPath(kind)` (R331): the block's exception entry. Nothing is saved; the channel is forced to Idle (R332). -/
def errorPath (x : Ctx) (kind : ErrorKind) : Act Unit := do
  upd (output (.logSnap kind))
  errorIdle x
  upd resetBaseline
  notify x (.protocolError kind)

/-- `ProtocolError(kind)` (R331): the error path, then the whole top-level operation ends with STATUS Ok. There is no
return from it: "the next operation word is interpreted in Idle" (R332). -/
def protocolError {α : Type} (x : Ctx) (kind : ErrorKind) : Act α := do
  errorPath x kind
  status .ok
  finish

/-- The MF engines acquired (R184). -/
def acquireMf (s : State) : State :=
  { s with out := s.out ++ [.mfInit false, .mfInit true], mfLive := true, mfWriteTone := 0, mfReadTone := 0 }

/-- `MfInit()` (R184). -/
def mfInit (x : Ctx) : Act Unit := if x.env.ierr then protocolError x .internalError else upd acquireMf

/-- The DTMF receiver acquired (R186). -/
def acquireDtmfRx (s : State) : State := { s with out := s.out ++ [.dtmfRxInit], dtmfRxLive := true }

/-- `DtmfRxInit()` (R186). -/
def dtmfRxInit (x : Ctx) : Act Unit := if x.env.ierr then protocolError x .internalError else upd acquireDtmfRx

/-- The DTMF transmitter acquired and given the digits, in order (R186). -/
def acquireDtmfTx (s : State) : State :=
  { s with
    out := s.out ++ ([.dtmfTxInit, .dtmfTiming s.cfg.dtmfOnMs s.cfg.dtmfOffMs] ++ s.dnis.map .dtmfPut)
    dtmfTxLive := true }

/-- `DtmfTxStart()` (R186). -/
def dtmfTxStart (x : Ctx) : Act Unit := if x.env.ierr then protocolError x .internalError else upd acquireDtmfTx

/-! ### Digit buffers -/

/-- The digit at an index of a buffer (R72, R73). An index at or beyond the length, which no rule generates (R79), gives a
free value (U11, log entry 6). -/
def readDigit (buffer : List Digit) (i : Nat) : Act Digit := fun s =>
  match buffer[i]? with
  | some d => .ok d s
  | none => .ok (Config.unwrittenDigit s.freeReads) { s with freeReads := s.freeReads + 1 }

/-- One ANI digit appended (R71). -/
def appendAni (d : Digit) (s : State) : State := { s with ani := s.ani ++ [d] }

/-- One DNIS digit appended (R71). -/
def appendDnis (d : Digit) (s : State) : State := { s with dnis := s.dnis ++ [d] }

/-! ### Delivery -/

/-- What a finished operation leaves: response words it did not read are never read (R120; log entry 5). -/
def dropResponses (s : State) : State := { s with resp := [] }

/-- The state an operation starts in: its own trace is empty (R9, R100). -/
def startTrace (s : State) : State := { s with out := [] }

/-- The next word of the operation stream, and the state with its response words at hand (R90, R96). -/
def fetch (s : State) : Option (OpBits × State) :=
  match s.input with
  | [] => none
  | d :: rest => some (d.word, { s with input := rest, resp := d.responses })

/-- The reaction to an illegal word (R95): the single output STATUS BadOp, no state change, no response read. -/
def illegalWord (s : State) : Host.Outcome State Fault Refusal :=
  .next (dropResponses (output (.status .badOp) (startTrace s)))

end Sys2Proof.Machine
end

