-- ==== Sys2Proof/Machine/Lifecycle.lean ====
section
/-! DEFINITION. The procedures that move the call-lifecycle overlay and are called from several families
(spec/44_lifecycle_overlay.md R310): spec/40_line_events.md R137, R144, R149, R152, R155, R159 and
spec/42_timer_events.md R262. -/

namespace Sys2Proof.Machine

/-- The state `HandleDisconnect` leaves in `cas_state` (R137). -/
def disconnectedCas (sig : Signal) : CasState := if sig = .clearBack then .clearBackRxd else .forcedReleaseRxd

/-- The timers `HandleDisconnect` cancels, in order (R137). -/
def disconnectTimers : List Timer := [.answer, .meteringPulse, .mfFwdSafety, .dtmfStartDial]

/-- `HandleDisconnect(sig, cause)` (R137). -/
def handleDisconnect (x : Ctx) (sig : Signal) (cause : Cause) : Act Unit := do
  upd (cancelEach disconnectTimers)
  upd mfRelease
  upd (fun s => { s with mfState := .off, casState := disconnectedCas sig, callState := .disconnected })
  notify x (.callDisconnect cause)

/-- `EndCall()` (R159). -/
def endCall (x : Ctx) : Act Unit := do
  txSignal x .idle
  upd resetBaseline
  notify x .callEnd

/-- `ClearForwardReceived()` (R152). -/
def clearForwardReceived (x : Ctx) : Act Unit := do
  upd cancelAll
  upd mfRelease
  upd (fun s => { s with mfState := .off, casState := .clearForwardRxd, callState := .disconnected })
  notify x (.callDisconnect .normalClearing)

/-- The automatic transition of the answer race (R149). -/
def answerReceived (x : Ctx) : Act Unit := do
  upd (fun s => { s with casState := .answerRxd, callState := .answered, answered := true })
  notify x .callAnswered

/-- `AcceptThenAnswer(mode)` (R149): the transition to Answered is skipped if the callback changed the state. Of
the timers it cancels `answer` only: dtmf_start_dial stays armed in AnswerRxd, and its expiry there is InvalidR2State by R260,
against the claim of R333 that no run reaches that (DEDUCED, log entry 17). -/
def acceptThenAnswer (x : Ctx) (mode : Mode) : Act Unit := do
  upd (cancel .answer)
  upd (fun s => { s with callState := .accepted })
  let r ← emitGuarded x (.callAccepted mode)
  onlyIf r.isSome (answerReceived x)

/-- `LocalClearForward()` after the signal is on the line (R155). -/
def convergeGlare (x : Ctx) : Act Unit := do
  let s ← see
  if s.casState = .doubleSeizure then
    upd (fun s => arm .setCallDown { s with casState := .clearForwardTxd })
  else endCall x

/-- `LocalClearForward()` (R155). -/
def localClearForward (x : Ctx) : Act Unit := do
  txSignal x .clearForward
  upd (cancel .seizePersist)
  convergeGlare x

/-- `AcceptedNow()` (R262). -/
def acceptedNow (x : Ctx) : Act Unit := do
  upd (fun s => { s with callState := .accepted })
  let s ← see
  notify x (.callAccepted s.acceptMode)

/-- `ReadyToAnswer()` (R262). -/
def readyToAnswer (x : Ctx) : Act Unit := do
  let s ← see
  if duration s.cfg .answerDelay = 0 then acceptedNow x else upd (arm .answerDelay)

/-- `SendSeizeAck()` (R144). -/
def sendSeizeAck (x : Ctx) : Act Unit := do
  txSignal x .seizeAck
  upd (fun s => { s with casState := .seizeAckTxd, mfState := .seizeAckTxd })

end Sys2Proof.Machine
end

