-- ==== Sys2Proof/Machine/ToneMachine.lean ====
section
/-! DEFINITION. The MF/DTMF tone-exchange machine (spec/41_tone_events.md): the backward side's requests (R187, R188, R195
to R206, R226, R227), the forward side's responses (R210 to R225), the DTMF path (R230 to R232), and the operations TONE_ON
(R191), TONE_OFF (R192) and DTMF_DIGIT (R230). -/

namespace Sys2Proof.Machine

/-! ### Backward side: requests -/

/-- `Request(tone, st, pulse)` (R187). -/
def request (x : Ctx) (tone : Tone) (st : MfState) (pulse : Bool) : Act Unit :=
  if tone = 0 then protocolError x .invalidMfTone
  else do
    setTone x tone
    upd (fun s => { s with mfState := st })
    upd (arm (if pulse then .mfBackResumeCycle else .mfBackCycle))

/-- `RequestDnis(p)` (R188). -/
def requestDnis (x : Ctx) (pulse : Bool) : Act Unit := do
  let s ← see
  if s.mfGroup = .gc then do
    request x s.cfg.gc.requestNextDnisDigitAndChangeToGa .dnisRqTxd pulse
    upd (fun s => { s with mfGroup := .ga })
  else request x s.cfg.ga.requestNextDnisDigit .dnisRqTxd pulse

/-- `RequestCategory(p)` (R188). -/
def requestCategory (x : Ctx) (pulse : Bool) : Act Unit := do
  let s ← see
  if s.cfg.ga.requestCategoryAndChangeToGc ≠ 0 ∧ s.mfGroup = .ga then do
    request x s.cfg.ga.requestCategoryAndChangeToGc .categoryRqTxd pulse
    upd (fun s => { s with mfGroup := .gc })
  else request x s.cfg.ga.requestCategory .categoryRqTxd pulse

/-- `RequestAni(p)` (R188). -/
def requestAni (x : Ctx) (pulse : Bool) : Act Unit := do
  let s ← see
  request x (if s.mfGroup = .gc then s.cfg.gc.requestNextAniDigit else s.cfg.ga.requestNextAniDigit) .aniRqTxd pulse

/-- `Finish(p)` (R188): the immediate accept, or the change to Group II. -/
def finishCollection (x : Ctx) (pulse : Bool) : Act Unit := do
  let s ← see
  if s.cfg.immediateAccept = true ∧ s.cfg.ga.addressCompleteChargeSetup ≠ 0 then do
    upd (fun s => { s with acceptMode := modeOfTone s.cfg s.cfg.ga.addressCompleteChargeSetup })
    request x s.cfg.ga.addressCompleteChargeSetup .acceptedTxd pulse
  else
    request x (if s.mfGroup = .gc then s.cfg.gc.requestChangeToG2 else s.cfg.ga.requestChangeToG2) .chgGiiTxd pulse

/-- `NextRequest(pulse)` (R188). -/
def nextRequest (x : Ctx) (pulse : Bool) : Act Unit := do
  let s ← see
  match nextWanted s with
  | .dnis => requestDnis x pulse
  | .category => requestCategory x pulse
  | .ani => requestAni x pulse
  | .finish => finishCollection x pulse

/-- After the callback of a received DNIS digit: whether collection ends (R196). -/
def closeDnisAfter (stop : Bool) (s : State) : State :=
  if stop = true ∨ s.dnisLen = s.cfg.maxDnis.toNat then { s with dnisDone := true } else s

/-- A DNIS digit received by MF (R196). A callback that raises the alarm changes a flag only, so the rule goes on (R317), against
R54 (d) (DEDUCED, log entry 11). -/
def storeDnis (x : Ctx) (d : Digit) : Act Unit := do
  upd (appendDnis d)
  let r ← emitGuarded x (.dnisDigitReceived d)
  match r with
  | none => pure ()
  | some r => do
    upd (closeDnisAfter (respStop r))
    nextRequest x false

/-- No further DNIS digit will be requested, then the next request (R196). -/
def closeDnis (x : Ctx) : Act Unit := do
  upd (fun s => { s with dnisDone := true })
  nextRequest x false

/-- `ReceiveDnis(t)` (R196). -/
def receiveDnis (x : Ctx) (t : Tone) : Act Unit := do
  let s ← see
  match toneDigit t with
  | some d => if s.dnisLen < s.cfg.maxDnis.toNat then storeDnis x d else closeDnis x
  | none => if t = s.cfg.g1.noMoreDnisAvailable then closeDnis x else protocolError x .invalidMfTone

/-- `ReceiveCategory(t)` (R200). -/
def receiveCategory (x : Ctx) (t : Tone) : Act Unit := do
  let s ← see
  if isCategoryTone s.cfg t then do
    upd (fun s => { s with callerCategory := t })
    nextRequest x false
  else protocolError x .invalidMfTone

/-- Whether the receiver stops ANI by count (R203). -/
def closeAniByCount (s : State) : State :=
  if s.cfg.forceUseMaxAni = true ∧ s.cfg.maxAni.toNat ≤ s.aniLen then { s with aniDone := true } else s

/-- After a received ANI digit: the count test, then the next request (R203). -/
def afterAniDigit (x : Ctx) : Act Unit := do
  upd closeAniByCount
  nextRequest x false

/-- An ANI digit received (R203): stored and reported when there is room, dropped otherwise. Against R54 (d) as `storeDnis`
(DEDUCED, log entry 11). -/
def storeAni (x : Ctx) (d : Digit) : Act Unit := do
  let s ← see
  if s.aniLen < s.cfg.maxAni.toNat then do
    upd (appendAni d)
    let r ← emitGuarded x (.aniDigitReceived d)
    onlyIf r.isSome (afterAniDigit x)
  else afterAniDigit x

/-- `ReceiveAni(t)` (R203), tests in its order. -/
def receiveAni (x : Ctx) (t : Tone) : Act Unit := do
  let s ← see
  if t = s.cfg.g1.callerAniIsRestricted then do
    upd (fun s => { s with aniRestricted := true, aniDone := true })
    nextRequest x false
  else if t = s.cfg.g1.noMoreAniAvailable then do
    upd (fun s => { s with aniDone := true })
    nextRequest x false
  else
    match toneDigit t with
    | some d => storeAni x d
    | none => protocolError x .invalidMfTone

/-- `ReceiveGroupII(t)` (R205). -/
def receiveGroupII (x : Ctx) (t : Tone) : Act Unit := do
  let s ← see
  if isCategoryTone s.cfg t then do
    upd (fun s => { s with callerCategory := t, mfGroup := .gb, callState := .offered })
    notify x (.callOffered t)
  else protocolError x .invalidMfTone

/-- `BackwardToneOn(t)` in Group A or C, by `mf_state` (R195). -/
def backwardGroupToneOn (x : Ctx) (t : Tone) : MfState → Act Unit
  | .dnisRqTxd => receiveDnis x t
  | .categoryRqTxd => receiveCategory x t
  | .aniRqTxd => receiveAni x t
  | .chgGiiTxd => receiveGroupII x t
  | .off => protocolError x .invalidMfState
  | .seizeAckTxd => protocolError x .invalidMfState
  | .acceptedTxd => protocolError x .invalidMfState
  | .disconnectTxd => protocolError x .invalidMfState
  | .categoryTxd => protocolError x .invalidMfState
  | .dnisTxd => protocolError x .invalidMfState
  | .dnisEndTxd => protocolError x .invalidMfState
  | .aniTxd => protocolError x .invalidMfState
  | .aniEndTxd => protocolError x .invalidMfState
  | .waitingTimeout => protocolError x .invalidMfState
  | .dialingDtmf => protocolError x .invalidMfState
  | .detectingDtmf => protocolError x .invalidMfState
  | .unassigned _ => protocolError x .invalidMfState

/-- The first forward tone (R195, row BackInit). -/
def firstForwardTone (x : Ctx) (t : Tone) : Act Unit := do
  let s ← see
  if s.mfState = .seizeAckTxd then do
    upd (fun s => { s with mfGroup := .ga })
    receiveDnis x t
  else protocolError x .invalidMfState

/-- `BackwardToneOn(t)` (R195) after the two cancels, by `mf_group`. No run from reset reaches its InvalidMfGroup rows, against
the derived claim of R333 (DEDUCED, log entry 17). -/
def backwardToneOnGroup (x : Ctx) (t : Tone) (st : MfState) : MfGroup → Act Unit
  | .backInit => firstForwardTone x t
  | .ga => backwardGroupToneOn x t st
  | .gc => backwardGroupToneOn x t st
  | .gb => protocolError x .invalidMfState
  | .dtmfBackInit => pure ()
  | .noGroup => protocolError x .invalidMfGroup
  | .fwdInit => protocolError x .invalidMfGroup
  | .gi => protocolError x .invalidMfGroup
  | .gii => protocolError x .invalidMfGroup
  | .giii => protocolError x .invalidMfGroup
  | .dtmfFwdInit => protocolError x .invalidMfGroup
  | .unassigned _ => protocolError x .invalidMfGroup

/-- `BackwardToneOn(t)` (R195). -/
def backwardToneOn (x : Ctx) (t : Tone) : Act Unit := do
  upd (cancelEach [.mfBackCycle, .mfBackResumeCycle])
  let s ← see
  backwardToneOnGroup x t s.mfState s.mfGroup

/-- The call offered, with the category learnt so far (R206, R258). -/
def offerCall (x : Ctx) : Act Unit := do
  upd (fun s => { s with callState := .offered })
  let s ← see
  notify x (.callOffered s.callerCategory)

/-- The accept signal is complete (R226; R258 for the pulse): the MF dance is over. -/
def acceptToneDone (x : Ctx) : Act Unit := do
  upd mfRelease
  upd (fun s => { s with mfState := .off })
  let s ← see
  if s.callState = .collecting then offerCall x else readyToAnswer x

/-- The disconnect tone is complete (R227). -/
def disconnectToneDone (x : Ctx) : Act Unit := do
  txSignal x .clearBack
  upd (cancel .mfBackCycle)
  upd mfRelease
  upd (fun s => { s with mfState := .off, casState := .clearBackTxd })

/-- `BackwardToneOff()` (R206), by `mf_state`. -/
def backwardToneOffIn (x : Ctx) : MfState → Act Unit
  | .disconnectTxd => disconnectToneDone x
  | .acceptedTxd => do
      upd (cancel .mfBackCycle)
      acceptToneDone x
  | .seizeAckTxd => setTone x 0
  | .categoryRqTxd => setTone x 0
  | .dnisRqTxd => setTone x 0
  | .aniRqTxd => setTone x 0
  | .chgGiiTxd => setTone x 0
  | .detectingDtmf => pure ()
  | .off => protocolError x .invalidMfState
  | .categoryTxd => protocolError x .invalidMfState
  | .dnisTxd => protocolError x .invalidMfState
  | .dnisEndTxd => protocolError x .invalidMfState
  | .aniTxd => protocolError x .invalidMfState
  | .aniEndTxd => protocolError x .invalidMfState
  | .waitingTimeout => protocolError x .invalidMfState
  | .dialingDtmf => protocolError x .invalidMfState
  | .unassigned _ => protocolError x .invalidMfState

/-- `BackwardToneOff()` (R206). -/
def backwardToneOff (x : Ctx) : Act Unit := do
  let s ← see
  backwardToneOffIn x s.mfState

/-! ### Forward side: responses -/

/-- `DueDnis(i)` (R214). The index is exact: no wrap-around occurs (R72). -/
def dueDnis (i : Nat) (s : State) : State :=
  if i < s.dnisLen then { s with dnisIndex := BitVec.ofNat 6 i, mfState := .dnisTxd }
  else if s.cfg.g1.noMoreDnisAvailable ≠ 0 then { s with mfState := .dnisEndTxd }
  else arm .mfFwdSafety { s with mfState := .waitingTimeout }

/-- `DueAni()` (R215). -/
def dueAni (s : State) : State :=
  if s.aniRestricted = true ∧ s.cfg.g1.callerAniIsRestricted ≠ 0 then { s with mfState := .aniEndTxd }
  else if s.aniRestricted = false ∧ s.aniPtr.toNat < s.aniLen then { s with mfState := .aniTxd }
  else if s.cfg.g1.noMoreAniAvailable ≠ 0 then { s with mfState := .aniEndTxd }
  else arm .mfFwdSafety { s with mfState := .waitingTimeout }

/-- The next DNIS digit falls due: `DueDnis(dnis_index + 1)` (R212, R216). -/
def dueNextDnis (s : State) : State := dueDnis (s.dnisIndex.toNat + 1) s

/-- A digit put on as an MF tone (R220, R219). -/
def sendDigit (x : Ctx) (d : Digit) : Act Unit :=
  if digitTone d = 0 then protocolError x .invalidMfTone else setTone x (digitTone d)

/-- The sentinel of an ANI that is withheld or exhausted (R220). -/
def aniEndTone (s : State) : Tone :=
  if s.aniRestricted = true ∧ s.cfg.g1.callerAniIsRestricted ≠ 0 then s.cfg.g1.callerAniIsRestricted
  else s.cfg.g1.noMoreAniAvailable

/-- The DNIS digit due, sent (R220). -/
def sendDnisDigit (x : Ctx) : Act Unit := do
  let s ← see
  let d ← readDigit s.dnis s.dnisIndex.toNat
  sendDigit x d

/-- The ANI digit due, sent, and the cursor moved (R220, R73). -/
def sendAniDigit (x : Ctx) : Act Unit := do
  let s ← see
  let d ← readDigit s.ani s.aniPtr.toNat
  sendDigit x d
  upd (fun s => { s with aniPtr := s.aniPtr + 1 })

/-- The category tone put on (R220, R221). -/
def sendCategory (x : Ctx) : Act Unit := do
  let s ← see
  setTone x s.callerCategory
  upd (fun s => { s with categorySent := true })

/-- `SendDue()` (R220), by `mf_state`. -/
def sendDueIn (x : Ctx) (s : State) : MfState → Act Unit
  | .dnisTxd => sendDnisDigit x
  | .dnisEndTxd => setTone x s.cfg.g1.noMoreDnisAvailable
  | .aniTxd => sendAniDigit x
  | .aniEndTxd => setTone x (aniEndTone s)
  | .categoryTxd => sendCategory x
  | .waitingTimeout => pure ()
  | .off => protocolError x .invalidMfState
  | .seizeAckTxd => protocolError x .invalidMfState
  | .categoryRqTxd => protocolError x .invalidMfState
  | .dnisRqTxd => protocolError x .invalidMfState
  | .aniRqTxd => protocolError x .invalidMfState
  | .chgGiiTxd => protocolError x .invalidMfState
  | .acceptedTxd => protocolError x .invalidMfState
  | .disconnectTxd => protocolError x .invalidMfState
  | .dialingDtmf => protocolError x .invalidMfState
  | .detectingDtmf => protocolError x .invalidMfState
  | .unassigned _ => protocolError x .invalidMfState

/-- `SendDue()` (R220). -/
def sendDue (x : Ctx) : Act Unit := do
  let s ← see
  sendDueIn x s s.mfState

/-- `ForwardStart()` (R210): the first DNIS digit, unasked. -/
def forwardStart (x : Ctx) : Act Unit := do
  upd (fun s => { s with dnisIndex := 0 })
  upd (dueDnis 0)
  sendDue x

/-- `Offset(k)` (R213): the range test comes before the subtraction (R72). -/
def offsetDnis (x : Ctx) (k : Nat) : Act Unit := do
  let s ← see
  if s.dnisIndex.toNat < k then protocolError x .libraryBug else upd (dueDnis (s.dnisIndex.toNat - k))

/-- `Accept(mode)` (R224). -/
def acceptSeen (x : Ctx) (mode : Mode) : Act Unit := do
  upd (fun s => { s with mfState := .off })
  let s ← see
  if s.casState = .answerRxdMfPending then acceptThenAnswer x mode
  else do
    upd (fun s => arm .answer { s with casState := .acceptRxd, callState := .accepted })
    notify x (.callAccepted mode)

/-- `MfDisconnect(cause)` (R225), with the `Cancel(answer)` that the table of R245 gives this rule. The pseudocode of R225 does
not write it out; that it comes first, as in R137, is DEDUCED (log entry 16). -/
def mfDisconnect (x : Ctx) (cause : Cause) : Act Unit := do
  upd (cancel .answer)
  upd (fun s => { s with mfState := .off, casState := .clearBackToneRxd, callState := .disconnected })
  notify x (.callDisconnect cause)

/-- The category falls due (R212 rows 6, 7, 9, 10, R216). -/
def dueCategory (s : State) : State := { s with mfState := .categoryTxd }

/-- `DecodeGA(t)` (R212), rows 1 to 13 in order. -/
def decodeGroupA (x : Ctx) (t : Tone) : Act Unit := do
  let s ← see
  if t = s.cfg.ga.requestNextDnisDigit then upd dueNextDnis
  else if t = s.cfg.ga.requestDnisMinus1 then offsetDnis x 1
  else if t = s.cfg.ga.requestDnisMinus2 then offsetDnis x 2
  else if t = s.cfg.ga.requestDnisMinus3 then offsetDnis x 3
  else if t = s.cfg.ga.requestAllDnisAgain then upd (dueDnis 0)
  else if t = s.cfg.ga.requestCategory ∧ s.categorySent = false then upd dueCategory
  else if t = s.cfg.ga.requestCategoryAndChangeToGc then upd (fun s => { dueCategory s with mfGroup := .giii })
  else if t = s.cfg.ga.requestNextAniDigit then upd dueAni
  else if t = s.cfg.ga.requestCategory then upd dueCategory
  else if t = s.cfg.ga.requestChangeToG2 then upd (fun s => { dueCategory s with mfGroup := .gii })
  else if t = s.cfg.ga.addressCompleteChargeSetup then acceptSeen x (modeOfTone s.cfg t)
  else if t = s.cfg.ga.networkCongestion then mfDisconnect x .networkCongestion
  else protocolError x .invalidMfTone

/-- `DecodeGC(t)` (R216). -/
def decodeGroupC (x : Ctx) (t : Tone) : Act Unit := do
  let s ← see
  if t = s.cfg.gc.requestNextAniDigit then upd dueAni
  else if t = s.cfg.gc.requestChangeToG2 then upd (fun s => { dueCategory s with mfGroup := .gii })
  else if t = s.cfg.gc.requestNextDnisDigitAndChangeToGa then upd (fun s => dueNextDnis { s with mfGroup := .gi })
  else if t = s.cfg.gc.networkCongestion then mfDisconnect x .networkCongestion
  else protocolError x .invalidMfTone

/-- `DecodeGB(t)` (R217). -/
def decodeGroupB (x : Ctx) (t : Tone) : Act Unit := do
  let s ← see
  if t = s.cfg.gb.acceptCallWithCharge then acceptSeen x .charge
  else if t = s.cfg.gb.acceptCallNoCharge then acceptSeen x .noCharge
  else if t = s.cfg.gb.acceptCallSpecial then acceptSeen x .special
  else if t = s.cfg.gb.busyNumber then mfDisconnect x .busyNumber
  else if t = s.cfg.gb.networkCongestion then mfDisconnect x .networkCongestion
  else if t = s.cfg.gb.unallocatedNumber then mfDisconnect x .unallocatedNumber
  else if t = s.cfg.gb.numberChanged then mfDisconnect x .numberChanged
  else if t = s.cfg.gb.lineOutOfOrder then mfDisconnect x .outOfOrder
  else if t = s.cfg.gb.specialInfoTone then mfDisconnect x .unspecified
  else protocolError x .invalidMfTone

/-- `ForwardToneOn(t)` (R211), by `mf_group`. Its InvalidMfGroup rows as those of `backwardToneOnGroup` (log entry 17). -/
def forwardToneOnGroup (x : Ctx) (t : Tone) : MfGroup → Act Unit
  | .gi => decodeGroupA x t
  | .giii => decodeGroupC x t
  | .gii => decodeGroupB x t
  | .noGroup => protocolError x .invalidMfGroup
  | .backInit => protocolError x .invalidMfGroup
  | .ga => protocolError x .invalidMfGroup
  | .gb => protocolError x .invalidMfGroup
  | .gc => protocolError x .invalidMfGroup
  | .fwdInit => protocolError x .invalidMfGroup
  | .dtmfFwdInit => protocolError x .invalidMfGroup
  | .dtmfBackInit => protocolError x .invalidMfGroup
  | .unassigned _ => protocolError x .invalidMfGroup

/-- `ForwardToneOn(t)` (R211). -/
def forwardToneOn (x : Ctx) (t : Tone) : Act Unit := do
  upd (cancel .mfFwdSafety)
  setTone x 0
  let s ← see
  if s.mfState = .off ∧ inForwardGroup s = true then protocolError x .invalidMfState
  else forwardToneOnGroup x t s.mfGroup

/-- `ForwardToneOff()` (R222). -/
def forwardToneOff (x : Ctx) : Act Unit := do
  let s ← see
  if s.mfState = .off then upd mfRelease else sendDue x

/-! ### TONE_ON and TONE_OFF -/

/-- A tone event goes to the half the channel plays (R180, R191, R192). -/
def bySide (x : Ctx) (backward forward : Act Unit) : Direction → Act Unit
  | .backward => backward
  | .forward => forward
  | .stopped => protocolError x .invalidMfState
  | .unassigned => protocolError x .invalidMfState

/-- TONE_ON of a new tone (R191). -/
def newTone (x : Ctx) (t : Tone) : Act Unit := do
  upd (fun s => { s with mfReadTone := t })
  let s ← see
  bySide x (backwardToneOn x t) (forwardToneOn x t) s.direction
  status .ok

/-- TONE_ON (R191). -/
def toneOn (t : Tone) (x : Ctx) : Act Unit := do
  let s ← see
  if s.alarm then status .ignored
  else if s.mfLive = false then status .ignored
  else if s.mfReadTone = t then status .ok
  else if s.mfReadTone ≠ 0 then protocolError x .brokenMfSequence
  else newTone x t

/-- TONE_OFF of the tone that was on (R192). -/
def toneEnded (x : Ctx) : Act Unit := do
  upd (fun s => { s with mfReadTone := 0 })
  let s ← see
  bySide x (backwardToneOff x) (forwardToneOff x) s.direction
  status .ok

/-- TONE_OFF (R192). -/
def toneOff (x : Ctx) : Act Unit := do
  let s ← see
  if s.alarm then status .ignored
  else if s.mfLive = false then status .ignored
  else if s.mfReadTone = 0 then status .ok
  else toneEnded x

/-! ### DTMF -/

/-- `DtmfCollected()` (R231). -/
def dtmfCollected (x : Ctx) : Act Unit := do
  upd (fun s => { s with dnisDone := true, mfState := .off, callState := .offered })
  notify x (.callOffered 0)

/-- Whether DTMF collection waits for another digit (R230). -/
def dtmfWaits (stop : Bool) (s : State) : Bool := !stop && decide (s.dnisLen < s.cfg.maxDnis.toNat)

/-- After the callback of a DTMF digit (R230). -/
def afterDtmfDigit (x : Ctx) (stop : Bool) : Act Unit := do
  let s ← see
  if dtmfWaits stop s then pure () else dtmfCollected x

/-- `ReceiveDtmf(d)` (R230). -/
def receiveDtmf (x : Ctx) (d : Digit) : Act Unit := do
  let s ← see
  if s.dnisLen < s.cfg.maxDnis.toNat then do
    upd (appendDnis d)
    let r ← emitGuarded x (.dnisDigitReceived d)
    match r with
    | none => pure ()
    | some r => afterDtmfDigit x (respStop r)
  else dtmfCollected x

/-- The first DTMF digit chooses the DTMF path (R230, row BackInit). -/
def firstDtmfDigit (x : Ctx) (d : Digit) : Act Unit := do
  let s ← see
  if s.mfState = .seizeAckTxd then do
    upd (fun s => { s with mfGroup := .dtmfBackInit, mfState := .detectingDtmf })
    receiveDtmf x d
  else pure ()

/-- DTMF_DIGIT by `mf_group` (R230). -/
def dtmfDigitIn (x : Ctx) (d : Digit) (st : MfState) : MfGroup → Act Unit
  | .backInit => firstDtmfDigit x d
  | .dtmfBackInit => if st = .detectingDtmf then receiveDtmf x d else pure ()
  | .noGroup => pure ()
  | .ga => pure ()
  | .gb => pure ()
  | .gc => pure ()
  | .fwdInit => pure ()
  | .gi => pure ()
  | .gii => pure ()
  | .giii => pure ()
  | .dtmfFwdInit => pure ()
  | .unassigned _ => pure ()

/-- DTMF_DIGIT (R230). -/
def dtmfDigit (d : Digit) (x : Ctx) : Act Unit := do
  let s ← see
  if s.alarm then status .ignored
  else if s.dtmfRxLive = false then status .ignored
  else do
    dtmfDigitIn x d s.mfState s.mfGroup
    status .ok

end Sys2Proof.Machine
end

