-- ==== Sys2Proof/Machine/LineMachine.lean ====
section
/-! DEFINITION. The CAS line-state machine (spec/40_line_events.md): the debounce arbiter (R131), the commit (R133), the
transition table (R138 to R158), and the operation LINE (R130). -/

namespace Sys2Proof.Machine

/-- The DTMF detector of an incoming call (R140). -/
def startDetector (x : Ctx) : Act Unit := do
  let s ← see
  onlyIf s.cfg.detectDtmf (dtmfRxInit x)

/-- The automatic seize-ack (R140). -/
def autoSeizeAck (x : Ctx) : Act Unit := do
  let s ← see
  onlyIf s.cfg.autoSeizeAck (sendSeizeAck x)

/-- `IncomingCall()` (R140). -/
def incomingCall (x : Ctx) : Act Unit := do
  startDetector x
  mfInit x
  upd (fun s =>
    { s with direction := .backward, callState := .collecting, mfGroup := .backInit, mfState := .off,
             casState := .seizeRxd })
  autoSeizeAck x
  notify x .callInit

/-- The exchange starts at Seize-Ack (R143): DTMF dialling is armed, or the MF exchange opens. -/
def startExchange (x : Ctx) : Act Unit := do
  let s ← see
  if s.cfg.dialWithDtmf then
    upd (fun s => arm .answer (arm .dtmfStartDial { s with mfGroup := .dtmfFwdInit, mfState := .off }))
  else do
    mfInit x
    upd (fun s => { s with mfGroup := .gi })
    forwardStart x

/-- SeizeTxd, Seize-Ack (R143). -/
def seizeAcknowledged (x : Ctx) : Act Unit := do
  upd (cancel .seize)
  upd (fun s => { s with casState := .seizeAckRxd })
  startExchange x
  notify x .callProceed

/-- SeizeTxd, Seize: glare (R142). -/
def glareDetected (x : Ctx) : Act Unit := do
  upd (cancel .seize)
  upd (fun s => arm .seizePersist { s with casState := .doubleSeizure, callState := .disconnected })
  notify x (.callDisconnect .glare)

/-- The peer's disconnect code, with the cause `Classify` gives it (R135, R137). -/
def disconnectSeen (x : Ctx) (r : LineCode) : Act Unit := do
  let s ← see
  match classify s.cfg r with
  | some (sig, cause) => handleDisconnect x sig cause
  | none => pure ()

/-- SeizeAckRxd, Answer (R147). -/
def answerBeforeAccept (x : Ctx) : Act Unit := do
  let s ← see
  if s.mfGroup = .dtmfFwdInit then acceptThenAnswer x .unknown
  else upd (fun s => { s with casState := .answerRxdMfPending })

/-- AcceptRxd, Answer (R148). -/
def answerAfterAccept (x : Ctx) : Act Unit := do
  upd (cancel .answer)
  upd (fun s => { s with casState := .answerRxd, callState := .answered, answered := true })
  notify x .callAnswered

/-- AnswerRxd, Clear-Back or Forced-Release (R146). -/
def meterOrDisconnect (x : Ctx) (r : LineCode) : Act Unit := do
  let s ← see
  if metering s.cfg = true ∧ s.answered = true then onlyIf (!isArmed .meteringPulse s) (upd (arm .meteringPulse))
  else disconnectSeen x r

/-- The billing pulse is over (R146). -/
def billingPulse (x : Ctx) : Act Unit := do
  upd (cancel .meteringPulse)
  notify x .billingPulseReceived

/-- AnswerRxd, Answer (R146). -/
def answerReturned (x : Ctx) : Act Unit := do
  let s ← see
  onlyIf (isArmed .meteringPulse s) (billingPulse x)

/-! ### The rows of the table. A signal `Decode` cannot return for the row has no action. -/

/-- R138. -/
def actIdle (x : Ctx) : Signal → Act Unit
  | .idle => notify x .lineIdle
  | .block => notify x .lineBlocked
  | .seize => incomingCall x
  | .seizeAck | .clearBack | .forcedRelease | .clearForward | .answer => pure ()

/-- R139. -/
def actBlocked (x : Ctx) : Signal → Act Unit
  | .idle => notify x .lineIdle
  | .block => notify x .lineBlocked
  | .seize | .seizeAck | .clearBack | .forcedRelease | .clearForward | .answer => pure ()

/-- R141. -/
def actBackwardCall (x : Ctx) : Signal → Act Unit
  | .clearForward => clearForwardReceived x
  | .idle | .block | .seize | .seizeAck | .clearBack | .forcedRelease | .answer => pure ()

/-- R150. -/
def actClearBackTxd (x : Ctx) : Signal → Act Unit
  | .clearForward => endCall x
  | .idle | .block | .seize | .seizeAck | .clearBack | .forcedRelease | .answer => pure ()

/-- R143, R142. -/
def actSeizeTxd (x : Ctx) : Signal → Act Unit
  | .seizeAck => seizeAcknowledged x
  | .seize => glareDetected x
  | .idle | .block | .clearBack | .forcedRelease | .clearForward | .answer => pure ()

/-- R147. -/
def actSeizeAckRxd (x : Ctx) (r : LineCode) : Signal → Act Unit
  | .answer => answerBeforeAccept x
  | .clearBack => disconnectSeen x r
  | .forcedRelease => disconnectSeen x r
  | .idle | .block | .seize | .seizeAck | .clearForward => pure ()

/-- R148. -/
def actAcceptRxd (x : Ctx) (r : LineCode) : Signal → Act Unit
  | .answer => answerAfterAccept x
  | .clearBack => disconnectSeen x r
  | .forcedRelease => disconnectSeen x r
  | .idle | .block | .seize | .seizeAck | .clearForward => pure ()

/-- R153. -/
def actAnswerRxdMfPending (x : Ctx) (r : LineCode) : Signal → Act Unit
  | .clearBack => disconnectSeen x r
  | .forcedRelease => disconnectSeen x r
  | .idle | .block | .seize | .seizeAck | .clearForward | .answer => pure ()

/-- R146. -/
def actAnswerRxd (x : Ctx) (r : LineCode) : Signal → Act Unit
  | .answer => answerReturned x
  | .clearBack => meterOrDisconnect x r
  | .forcedRelease => meterOrDisconnect x r
  | .idle | .block | .seize | .seizeAck | .clearForward => pure ()

/-- R151. -/
def actClearForwardTxd (x : Ctx) : Signal → Act Unit
  | .idle => endCall x
  | .clearBack | .forcedRelease => pure ()
  | .block | .seize | .seizeAck | .clearForward | .answer => pure ()

/-- R154. -/
def actDoubleSeizure : Signal → Act Unit
  | .clearForward => upd (fun s => { s with casState := .doubleSeizureClearFwdPending })
  | .idle | .block | .seize | .seizeAck | .clearBack | .forcedRelease | .answer => pure ()

/-- `Act(cas_state, sig)` (R138 to R157), with the masked code for the rows that classify it. -/
def act (x : Ctx) (r : LineCode) (sig : Signal) : CasState → Act Unit
  | .init => actIdle x sig
  | .idle => actIdle x sig
  | .blocked => actBlocked x sig
  | .seizeRxd => actBackwardCall x sig
  | .seizeAckTxd => actBackwardCall x sig
  | .answerTxd => actBackwardCall x sig
  | .executingDoubleAnswer => actBackwardCall x sig
  | .clearBackTxd => actClearBackTxd x sig
  | .clearForwardRxd => pure ()
  | .seizeTxd => actSeizeTxd x sig
  | .seizeAckRxd => actSeizeAckRxd x r sig
  | .acceptRxd => actAcceptRxd x r sig
  | .answerRxdMfPending => actAnswerRxdMfPending x r sig
  | .answerRxd => actAnswerRxd x r sig
  | .clearBackRxd => pure ()
  | .forcedReleaseRxd => pure ()
  | .clearBackToneRxd => pure ()
  | .clearForwardTxd => actClearForwardTxd x sig
  | .doubleSeizure => actDoubleSeizure sig
  | .doubleSeizureClearFwdPending => pure ()
  | .invalid => pure ()
  | .unassigned _ => pure ()

/-- A `cas_state` that holds no valid state (R158). -/
def casInvalid : CasState → Bool
  | .invalid => true
  | .unassigned _ => true
  | _ => false

/-- The receive registers at a commit (R133): the sample recorded, nothing pending, the signal logged. -/
def recordSample (raw : LineCode) (s : State) : State :=
  let s' := cancel .casPersistenceCheck
    (clearPending { s with rxRaw := raw, rxCode := maskCode s.cfg raw, rxValid := true })
  let sig := decodeSignal s'.cfg s'.rxCode s'.casState
  output (.logRx sig raw) { s' with rxSig := sig }

/-- A committed code runs the transition table (R133). -/
def runTable (x : Ctx) : Act Unit := do
  let s ← see
  if casInvalid s.casState then protocolError x .invalidR2State
  else
    match s.rxSig with
    | none => protocolError x .invalidCasBits
    | some sig => act x s.rxCode sig s.casState

/-- `Commit(raw)` (R133). -/
def commit (x : Ctx) (raw : LineCode) : Act Unit := do
  upd (recordSample raw)
  runTable x

/-- The line shows the committed value again (R131). -/
def lineReverted (s : State) : State := if s.pendingValid then cancel .casPersistenceCheck (clearPending s) else s

/-- A changed code waits for the persistence check (R131). -/
def startDebounce (r : LineCode) (s : State) : State :=
  arm .casPersistenceCheck { s with pendingValid := true, pendingCode := r }

/-- `LineSample(raw)` (R131). -/
def lineSample (x : Ctx) (raw : LineCode) : Act Unit := do
  let s ← see
  if s.rxValid = true ∧ maskCode s.cfg raw = s.rxCode then upd lineReverted
  else if debounce s.cfg then
    (if s.pendingValid = true ∧ s.pendingCode = maskCode s.cfg raw then pure ()
     else upd (startDebounce (maskCode s.cfg raw)))
  else commit x raw

/-- LINE once the alarm gate is passed (R130). -/
def lineChanged (x : Ctx) : Act Unit := do
  let raw ← getLine x
  lineSample x raw
  status .ok

/-- LINE (R130). -/
def lineOp (x : Ctx) : Act Unit := do
  let s ← see
  if s.alarm then status .ignored else lineChanged x

end Sys2Proof.Machine
end

