-- ==== Sys2Proof/Machine/Expiry.lean ====
section
/-! DEFINITION. The expiry of each named timer (spec/42_timer_events.md R250 to R261) and the common gate of TIMER_EXP
(R244). Each effect runs with the timer's bit already cleared. -/

namespace Sys2Proof.Machine

/-- R250. -/
def expireSeize (x : Ctx) : Act Unit := do
  let s ← see
  if s.casState = .seizeTxd then protocolError x .seizeTimeout else protocolError x .invalidR2State

/-- R251. -/
def expireSeizePersist (x : Ctx) : Act Unit := do
  let s ← see
  if inGlare s then localClearForward x else protocolError x .invalidR2State

/-- The block clears forward by itself (R252). -/
def noAnswer (x : Ctx) : Act Unit := do
  txSignal x .clearForward
  upd (cancel .dtmfStartDial)
  upd mfRelease
  upd (fun s =>
    arm .setCallDown { s with mfState := .off, casState := .clearForwardTxd, callState := .disconnected })
  notify x (.callDisconnect .noAnswer)

/-- R252. -/
def expireAnswer (x : Ctx) : Act Unit := do
  let s ← see
  if s.casState = .acceptRxd ∨ s.casState = .seizeAckRxd then noAnswer x else protocolError x .invalidR2State

/-- R253. -/
def expireAnswerDelay (x : Ctx) : Act Unit := do
  let s ← see
  if s.casState = .seizeAckTxd ∧ s.callState = .offered then acceptedNow x else protocolError x .invalidR2State

/-- The double answer's first expiry: the answer is taken back (R254). -/
def toggleOff (x : Ctx) : Act Unit := do
  txSignal x .clearBack
  upd (arm .doubleAnswer)

/-- The double answer's second expiry: the answer stays (R254). -/
def toggleOn (x : Ctx) : Act Unit := do
  txSignal x .answer
  upd (fun s => { s with casState := .answerTxd })

/-- R254: the phase is read from `tx_sig`. -/
def expireDoubleAnswer (x : Ctx) : Act Unit := do
  let s ← see
  if s.casState ≠ .executingDoubleAnswer then protocolError x .invalidR2State
  else if s.txSig = some .answer then toggleOff x
  else if s.txSig = some .clearBack then toggleOn x
  else protocolError x .invalidR2State

/-- R255: whatever the state. -/
def expireSetCallDown (x : Ctx) : Act Unit := endCall x

/-- R256: the line is classified as it stands at expiry. -/
def expireMeteringPulse (x : Ctx) : Act Unit := do
  let s ← see
  if s.casState ≠ .answerRxd then protocolError x .invalidR2State
  else
    match classify s.cfg s.rxCode with
    | some (sig, cause) => handleDisconnect x sig cause
    | none => protocolError x .invalidCasBits

/-- R257: the no-terminator accommodation, or the MF cycle timeout. -/
def expireMfBackCycle (x : Ctx) : Act Unit := do
  let s ← see
  if s.direction = .backward ∧ s.mfReadTone = 0 ∧ s.mfState = .dnisRqTxd ∧ s.cfg.g1.noMoreDnisAvailable = 0 then do
    upd (fun s => { s with dnisDone := true })
    nextRequest x true
  else if s.direction = .backward ∧ s.mfReadTone = 0 ∧ s.mfState = .aniRqTxd ∧ s.cfg.g1.noMoreAniAvailable = 0 then do
    upd (fun s => { s with aniDone := true })
    nextRequest x true
  else protocolError x .backMfTimeout

/-- R258: the pulse ends. -/
def expireMfBackResumeCycle (x : Ctx) : Act Unit := do
  setTone x 0
  let s ← see
  if s.mfState = .acceptedTxd then acceptToneDone x else upd (arm .mfBackCycle)

/-- R259. -/
def expireMfFwdSafety (x : Ctx) : Act Unit := protocolError x .fwdSafetyTimeout

/-- The DTMF transmission starts (R260). -/
def startDialing (x : Ctx) : Act Unit := do
  dtmfTxStart x
  upd (fun s => { s with mfState := .dialingDtmf })

/-- R260. InvalidR2State is reached here from reset, by an Answer before the dialling starts (R143, R149), against the derived
claim of R333: R260 is followed (DEDUCED, log entry 17). -/
def expireDtmfStartDial (x : Ctx) : Act Unit := do
  let s ← see
  if s.casState = .seizeAckRxd ∧ s.mfGroup = .dtmfFwdInit then startDialing x else protocolError x .invalidR2State

/-- The pending change is discarded and the sample taken afresh (R261). -/
def discardChange (x : Ctx) (raw : LineCode) : Act Unit := do
  upd clearPending
  lineSample x raw

/-- The sample at expiry decides (R261). -/
def persistenceDecided (x : Ctx) (raw : LineCode) : Act Unit := do
  let s ← see
  if maskCode s.cfg raw = s.pendingCode then commit x raw else discardChange x raw

/-- R261: on a failed read nothing stays pending. -/
def expireCasPersistenceCheck (x : Ctx) : Act Unit :=
  if x.env.lerr then do
    upd clearPending
    ioError x .lineRead
  else persistenceDecided x x.env.line

/-- A live timer expires (R244): its bit is cleared, no TMR_CANCEL, then its effect. -/
def fireTimer (t : Timer) (effect : Ctx → Act Unit) (x : Ctx) : Act Unit := do
  upd (disarm t)
  effect x
  status .ok

/-- TIMER_EXP `t` (R244). -/
def timerExp (t : Timer) (effect : Ctx → Act Unit) (x : Ctx) : Act Unit := do
  let s ← see
  if s.alarm then status .ignored
  else if isArmed t s = false then status .ignored
  else fireTimer t effect x

end Sys2Proof.Machine
end

