-- ==== Sys2Proof/Machine/CallControl.lean ====
section
/-! DEFINITION. The call-control operations (spec/43_call_control.md) as they run at top level or nested in an event
callback: "the rules are the same" (R274). Each produces its own STATUS (R316). -/

namespace Sys2Proof.Machine

/-! ### Staging (R270, R271, R273) -/

/-- STAGE_CLR (R270). -/
def stageClr (_ : Ctx) : Act Unit := do
  upd (fun s => { s with stageAni := [], stageDnis := [] })
  status .ok

/-- STAGE_ANI (R271). -/
def stageAni (d : Digit) (_ : Ctx) : Act Unit := do
  let s ← see
  if s.stageAniLen = Config.cap then status .fail
  else do
    upd (fun s => { s with stageAni := s.stageAni ++ [d] })
    status .ok

/-- STAGE_DNIS (R273). -/
def stageDnis (d : Digit) (_ : Ctx) : Act Unit := do
  let s ← see
  if s.stageDnisLen = Config.cap then status .fail
  else do
    upd (fun s => { s with stageDnis := s.stageDnis ++ [d] })
    status .ok

/-! ### MAKE_CALL (R272) -/

/-- The call's registers at MAKE_CALL (R272), after the Seize is on the line. -/
def openCall (category : Category) (restricted : Bool) (s : State) : State :=
  { s with
    ani := s.stageAni
    dnis := s.stageDnis
    stageAni := []
    stageDnis := []
    dnisIndex := 0
    aniPtr := 0
    aniRestricted := restricted
    callerCategory := if s.cfg.dialWithDtmf then 0 else categoryTone s.cfg category
    direction := .forward
    mfGroup := if s.cfg.dialWithDtmf then .dtmfFwdInit else .fwdInit
    mfState := .off
    casState := .seizeTxd
    callState := .dialing }

/-- MAKE_CALL (R272). -/
def makeCall (category : Category) (restricted : Bool) (x : Ctx) : Act Unit := do
  let s ← see
  if makeCallGuard category s then do
    txSignal x .seize
    upd (openCall category restricted)
    upd (arm .seize)
    status .ok
  else status .fail

/-! ### ACK_CALL, ACCEPT_CALL, ANSWER_CALL (R275 to R282) -/

/-- ACK_CALL (R275). -/
def ackCall (x : Ctx) : Act Unit := do
  let s ← see
  if ackGuard s then do
    sendSeizeAck x
    status .ok
  else status .fail

/-- The Group B accept tone (R276, normal MF path). -/
def acceptByTone (mode : Mode) (x : Ctx) : Act Unit := do
  let s ← see
  if acceptTone s.cfg mode = 0 then status .fail
  else do
    setTone x (acceptTone s.cfg mode)
    upd (fun s => arm .mfBackCycle { s with acceptMode := mode, mfState := .acceptedTxd })
    status .ok

/-- The accept of a DTMF backward call (R277): nothing is signalled. -/
def acceptDtmf (mode : Mode) (x : Ctx) : Act Unit := do
  upd mfRelease
  upd (fun s => { s with acceptMode := mode })
  acceptedNow x
  status .ok

/-- The accept after an immediate accept (R276): the tone was sent already. -/
def acceptAgain (x : Ctx) : Act Unit := do
  readyToAnswer x
  status .ok

/-- ACCEPT_CALL (R276). -/
def acceptCall (mode : Mode) (x : Ctx) : Act Unit := do
  let s ← see
  if acceptGuard s = false then status .fail
  else if s.mfLive = true ∧ s.mfGroup = .gb then acceptByTone mode x
  else if s.mfGroup = .dtmfBackInit then acceptDtmf mode x
  else acceptAgain x

/-- The state after Answer is on the line (R282). -/
def answerSent (double : Bool) (s : State) : State :=
  if double then arm .doubleAnswer { s with casState := .executingDoubleAnswer } else { s with casState := .answerTxd }

/-- `AnswerTx(double)` (R282). -/
def answerTx (double : Bool) (x : Ctx) : Act Unit := do
  txSignal x .answer
  upd (cancel .answerDelay)
  upd mfRelease
  upd (fun s => { s with mfState := .off })
  upd (answerSent double)
  upd (fun s => { s with callState := .answered, answered := true })

/-- The answer under `AnswerGuard` (R280). -/
def guardedAnswer (double : Bool) (x : Ctx) : Act Unit := do
  let s ← see
  if answerGuard s then do
    answerTx double x
    status .ok
  else status .fail

/-- ANSWER_CALL (R280). -/
def answerCall (x : Ctx) : Act Unit := do
  let s ← see
  guardedAnswer s.cfg.doubleAnswer x

/-- ANSWER_CALL_MODE (R281). -/
def answerCallMode (double : Bool) (x : Ctx) : Act Unit := guardedAnswer double x

/-! ### DISCONNECT_CALL (R285 to R288) -/

/-- The MF disconnect-cause tone (R286). -/
def disconnectByTone (cause : Cause) (x : Ctx) : Act Unit := do
  let s ← see
  setTone x (causeTone s.cfg cause)
  upd (fun s => arm .mfBackCycle { s with mfState := .disconnectTxd, callState := .disconnected })

/-- The backward side's clear on the line (R286). -/
def disconnectByLine (cause : Cause) (x : Ctx) : Act Unit := do
  let s ← see
  txSignal x (backwardClearSignal cause s)
  upd cancelCallTimers
  upd mfRelease
  upd (fun s => { s with mfState := .off, casState := .clearBackTxd, callState := .disconnected })

/-- The backward side (R286). -/
def disconnectBackward (cause : Cause) (x : Ctx) : Act Unit := do
  let s ← see
  if causeToneDue cause s then disconnectByTone cause x else disconnectByLine cause x

/-- The forward side's clear (R287). -/
def clearForward (x : Ctx) : Act Unit := do
  txSignal x .clearForward
  upd cancelCallTimers
  upd mfRelease
  upd (fun s =>
    arm .setCallDown { s with mfState := .off, casState := .clearForwardTxd, callState := .disconnected })

/-- The forward side (R287). -/
def disconnectForward (x : Ctx) : Act Unit := do
  let s ← see
  if inGlare s then localClearForward x else clearForward x

/-- A row of R285 that acts, then STATUS Ok. -/
def thenOk (m : Act Unit) : Act Unit := do
  m
  status .ok

/-- Rows 4 to 6 of R285, by direction. -/
def disconnectByDirection (cause : Cause) (x : Ctx) : Direction → Act Unit
  | .backward => thenOk (disconnectBackward cause x)
  | .forward => thenOk (disconnectForward x)
  | .stopped => status .fail
  | .unassigned => status .fail

/-- DISCONNECT_CALL (R285): the first matching row. -/
def disconnectCall (cause : Cause) (x : Ctx) : Act Unit := do
  let s ← see
  if s.alarm = true ∨ s.callState = .idle then status .fail
  else if disconnectInProgress s then status .ok
  else if s.casState = .clearForwardRxd then thenOk (endCall x)
  else disconnectByDirection cause x s.direction

/-! ### SET_IDLE, SET_BLOCKED (R292, R293) -/

/-- SET_IDLE (R292). -/
def setIdle (x : Ctx) : Act Unit := do
  txSignal x .idle
  upd resetBaseline
  status .ok

/-- SET_BLOCKED (R293). -/
def setBlocked (x : Ctx) : Act Unit := do
  txSignal x .block
  upd resetBaseline
  upd (fun s => { s with casState := .blocked })
  status .ok

/-! ### ALARM (R295 to R297) -/

/-- The own tone muted at alarm (R296). -/
def muteTone (s : State) : State := if s.mfWriteTone = 0 then s else putTone 0 s

/-- The freeze at alarm raise (R296). -/
def freeze (s : State) : State := muteTone (cancelAll { s with alarm := true })

/-- ALARM 1 (R296). -/
def alarmRaise (_ : Ctx) : Act Unit := do
  let s ← see
  if s.alarm then status .ok
  else do
    upd freeze
    status .ok

/-- A pending call is dropped when the alarm clears (R297). -/
def dropPendingCall (x : Ctx) : Act Unit := do
  let s ← see
  onlyIf (decide (s.callState ≠ .idle)) (errorPath x .alarmRaised)

/-- The alarm clears with the line readable (R297). The sample is taken also when a callback of the error path raised the alarm
again, against R54 (d) (DEDUCED, log entry 11). -/
def resync (x : Ctx) : Act Unit := do
  let raw ← getLine x
  upd (fun s => { s with alarm := false, rxValid := false })
  dropPendingCall x
  lineSample x raw
  status .ok

/-- ALARM 0 (R297). A failed read leaves the alarm set and aborts (R336; log entry 3). -/
def alarmClear (x : Ctx) : Act Unit := do
  let s ← see
  if s.alarm then resync x else status .ok

/-- ALARM (R295). -/
def alarm (raised : Bool) (x : Ctx) : Act Unit := if raised then alarmRaise x else alarmClear x

end Sys2Proof.Machine
end

