-- ==== Sys2Proof/Machine/Reentry.lean ====
section
/-! DEFINITION. Re-entry from an event callback (spec/30_encoding.md R97, spec/44_lifecycle_overlay.md R316) and the run of a
top-level operation (spec/00_scope.md R10). -/

namespace Sys2Proof.Machine

/-- A nested operation (R97, R316): the twelve call-control operations run, with the top-level word's environment; the
event operations are dropped, "no state change and no output (not even a status)". -/
def nestedOperation (x : Ctx) : Instr → Act Unit
  | .makeCall category restricted _ => makeCall category restricted x
  | .acceptCall mode _ => acceptCall mode x
  | .answerCall _ => answerCall x
  | .answerCallMode double _ => answerCallMode double x
  | .disconnectCall cause _ => disconnectCall cause x
  | .ackCall _ => ackCall x
  | .setIdle _ => setIdle x
  | .setBlocked _ => setBlocked x
  | .alarm raised _ => alarm raised x
  | .stageClr _ => stageClr x
  | .stageAni digit _ => stageAni digit x
  | .stageDnis digit _ => stageDnis digit x
  | .line _ => pure ()
  | .toneOn _ _ => pure ()
  | .toneOff _ => pure ()
  | .dtmfDigit _ _ => pure ()
  | .timerExpSeize _ => pure ()
  | .timerExpSeizePersist _ => pure ()
  | .timerExpAnswer _ => pure ()
  | .timerExpAnswerDelay _ => pure ()
  | .timerExpDoubleAnswer _ => pure ()
  | .timerExpSetCallDown _ => pure ()
  | .timerExpMeteringPulse _ => pure ()
  | .timerExpMfBackCycle _ => pure ()
  | .timerExpMfBackResumeCycle _ => pure ()
  | .timerExpMfFwdSafety _ => pure ()
  | .timerExpDtmfStartDial _ => pure ()
  | .timerExpCasPersistenceCheck _ => pure ()

/-- A nested word (R97): an illegal one is dropped. -/
def nestedWord (x : Ctx) (w : OpBits) : Act Unit :=
  match decode w with
  | .instr i => nestedOperation x i
  | .illegal _ => pure ()

/-- How a word nested in a response runs when `n` more levels may be entered (R97, R316): at level 0 `has_op` is treated as
0. The environment stays the top-level word's at every level. -/
def reenter (env : Env) : Nat → OpBits → Act Unit
  | 0 => fun _ => pure ()
  | n + 1 => nestedWord { env := env, reenter := reenter env n }

/-- The context of a top-level operation: depth 0, NEST_MAX levels below it (R316). -/
def topCtx (env : Env) : Ctx := { env := env, reenter := reenter env Config.nestMax }

/-- What an operation leaves, however it ended (R331, R338). -/
def outcomeOf : EStateM.Result Halt State Unit → Host.Outcome State Fault Refusal
  | .ok _ s => .next (dropResponses s)
  | .error _ s => .next (dropResponses s)

/-- A top-level operation: one complete reaction (R10), with a trace of its own (R100). -/
def runTop (env : Env) (op : Ctx → Act Unit) (s : State) : Host.Outcome State Fault Refusal :=
  outcomeOf (op (topCtx env) (startTrace s))

end Sys2Proof.Machine
end

