-- ==== Sys2Proof/Machine/CallEvents.lean ====
section
/-! DEFINITION. The meanings of the call-control operations at top level (spec/43_call_control.md). -/

namespace Sys2Proof.Machine

/-- MAKE_CALL (R272). -/
def execMakeCall (category : Category) (restricted : Bool) (env : Env) (s : State) : Host.Outcome State Fault Refusal :=
  runTop env (makeCall category restricted) s

/-- ACCEPT_CALL (R276). -/
def execAcceptCall (mode : Mode) (env : Env) (s : State) : Host.Outcome State Fault Refusal :=
  runTop env (acceptCall mode) s

/-- ANSWER_CALL (R280). -/
def execAnswerCall (env : Env) (s : State) : Host.Outcome State Fault Refusal :=
  runTop env answerCall s

/-- ANSWER_CALL_MODE (R281). -/
def execAnswerCallMode (double : Bool) (env : Env) (s : State) : Host.Outcome State Fault Refusal :=
  runTop env (answerCallMode double) s

/-- DISCONNECT_CALL (R285). -/
def execDisconnectCall (cause : Cause) (env : Env) (s : State) : Host.Outcome State Fault Refusal :=
  runTop env (disconnectCall cause) s

/-- ACK_CALL (R275). -/
def execAckCall (env : Env) (s : State) : Host.Outcome State Fault Refusal :=
  runTop env ackCall s

/-- SET_IDLE (R292). -/
def execSetIdle (env : Env) (s : State) : Host.Outcome State Fault Refusal :=
  runTop env setIdle s

/-- SET_BLOCKED (R293). -/
def execSetBlocked (env : Env) (s : State) : Host.Outcome State Fault Refusal :=
  runTop env setBlocked s

/-- ALARM (R295). -/
def execAlarm (raised : Bool) (env : Env) (s : State) : Host.Outcome State Fault Refusal :=
  runTop env (alarm raised) s

/-- STAGE_CLR (R270). -/
def execStageClr (env : Env) (s : State) : Host.Outcome State Fault Refusal :=
  runTop env stageClr s

/-- STAGE_ANI (R271). -/
def execStageAni (digit : Digit) (env : Env) (s : State) : Host.Outcome State Fault Refusal :=
  runTop env (stageAni digit) s

/-- STAGE_DNIS (R273). -/
def execStageDnis (digit : Digit) (env : Env) (s : State) : Host.Outcome State Fault Refusal :=
  runTop env (stageDnis digit) s

end Sys2Proof.Machine
end

