-- ==== Sys2Proof/Machine/LineEvents.lean ====
section
/-! DEFINITION. The meaning of LINE (spec/40_line_events.md R130). -/

namespace Sys2Proof.Machine

/-- LINE (R130). -/
def execLine (env : Env) (s : State) : Host.Outcome State Fault Refusal := runTop env lineOp s

end Sys2Proof.Machine
end

