-- ==== Sys2Proof/Machine/TimerEvents.lean ====
section
/-! DEFINITION. The meanings of TIMER_EXP, one for each named timer (spec/42_timer_events.md R244, R250 to R261). -/

namespace Sys2Proof.Machine

/-- TIMER_EXP of `seize` (R244, R250). -/
def execTimerExpSeize (env : Env) (s : State) : Host.Outcome State Fault Refusal :=
  runTop env (timerExp .seize expireSeize) s

/-- TIMER_EXP of `seizePersist` (R244, R251). -/
def execTimerExpSeizePersist (env : Env) (s : State) : Host.Outcome State Fault Refusal :=
  runTop env (timerExp .seizePersist expireSeizePersist) s

/-- TIMER_EXP of `answer` (R244, R252). -/
def execTimerExpAnswer (env : Env) (s : State) : Host.Outcome State Fault Refusal :=
  runTop env (timerExp .answer expireAnswer) s

/-- TIMER_EXP of `answerDelay` (R244, R253). -/
def execTimerExpAnswerDelay (env : Env) (s : State) : Host.Outcome State Fault Refusal :=
  runTop env (timerExp .answerDelay expireAnswerDelay) s

/-- TIMER_EXP of `doubleAnswer` (R244, R254). -/
def execTimerExpDoubleAnswer (env : Env) (s : State) : Host.Outcome State Fault Refusal :=
  runTop env (timerExp .doubleAnswer expireDoubleAnswer) s

/-- TIMER_EXP of `setCallDown` (R244, R255). -/
def execTimerExpSetCallDown (env : Env) (s : State) : Host.Outcome State Fault Refusal :=
  runTop env (timerExp .setCallDown expireSetCallDown) s

/-- TIMER_EXP of `meteringPulse` (R244, R256). -/
def execTimerExpMeteringPulse (env : Env) (s : State) : Host.Outcome State Fault Refusal :=
  runTop env (timerExp .meteringPulse expireMeteringPulse) s

/-- TIMER_EXP of `mfBackCycle` (R244, R257). -/
def execTimerExpMfBackCycle (env : Env) (s : State) : Host.Outcome State Fault Refusal :=
  runTop env (timerExp .mfBackCycle expireMfBackCycle) s

/-- TIMER_EXP of `mfBackResumeCycle` (R244, R258). -/
def execTimerExpMfBackResumeCycle (env : Env) (s : State) : Host.Outcome State Fault Refusal :=
  runTop env (timerExp .mfBackResumeCycle expireMfBackResumeCycle) s

/-- TIMER_EXP of `mfFwdSafety` (R244, R259). -/
def execTimerExpMfFwdSafety (env : Env) (s : State) : Host.Outcome State Fault Refusal :=
  runTop env (timerExp .mfFwdSafety expireMfFwdSafety) s

/-- TIMER_EXP of `dtmfStartDial` (R244, R260). -/
def execTimerExpDtmfStartDial (env : Env) (s : State) : Host.Outcome State Fault Refusal :=
  runTop env (timerExp .dtmfStartDial expireDtmfStartDial) s

/-- TIMER_EXP of `casPersistenceCheck` (R244, R261). -/
def execTimerExpCasPersistenceCheck (env : Env) (s : State) : Host.Outcome State Fault Refusal :=
  runTop env (timerExp .casPersistenceCheck expireCasPersistenceCheck) s

end Sys2Proof.Machine
end

