-- ==== Sys2Proof/Machine/ToneEvents.lean ====
section
/-! DEFINITION. The meanings of TONE_ON (spec/41_tone_events.md R191), TONE_OFF (R192) and DTMF_DIGIT (R230). -/

namespace Sys2Proof.Machine

/-- TONE_ON (R191). Tone 0 makes the word illegal (R93, R95). -/
def execToneOn (tone : Tone) (env : Env) (s : State) : Host.Outcome State Fault Refusal :=
  if toneWellFormed tone then runTop env (toneOn tone) s else illegalWord s

/-- TONE_OFF (R192). -/
def execToneOff (env : Env) (s : State) : Host.Outcome State Fault Refusal := runTop env toneOff s

/-- DTMF_DIGIT (R230). -/
def execDtmfDigit (digit : Digit) (env : Env) (s : State) : Host.Outcome State Fault Refusal :=
  runTop env (dtmfDigit digit) s

end Sys2Proof.Machine
end

