-- ==== Sys2Proof/Machine/Dispatch.lean ====
section
/-! DEFINITION. One arm per operation of spec/opcode_table.json. -/

namespace Sys2Proof.Machine

/-- The effect of one operation (spec/00_scope.md R10). -/
def exec (i : Instr) (s : State) : Host.Outcome State Fault Refusal :=
  match i with
  | .line env => Sys2Proof.Machine.execLine env s
  | .toneOn tone env => Sys2Proof.Machine.execToneOn tone env s
  | .toneOff env => Sys2Proof.Machine.execToneOff env s
  | .dtmfDigit digit env => Sys2Proof.Machine.execDtmfDigit digit env s
  | .timerExpSeize env => Sys2Proof.Machine.execTimerExpSeize env s
  | .timerExpSeizePersist env => Sys2Proof.Machine.execTimerExpSeizePersist env s
  | .timerExpAnswer env => Sys2Proof.Machine.execTimerExpAnswer env s
  | .timerExpAnswerDelay env => Sys2Proof.Machine.execTimerExpAnswerDelay env s
  | .timerExpDoubleAnswer env => Sys2Proof.Machine.execTimerExpDoubleAnswer env s
  | .timerExpSetCallDown env => Sys2Proof.Machine.execTimerExpSetCallDown env s
  | .timerExpMeteringPulse env => Sys2Proof.Machine.execTimerExpMeteringPulse env s
  | .timerExpMfBackCycle env => Sys2Proof.Machine.execTimerExpMfBackCycle env s
  | .timerExpMfBackResumeCycle env => Sys2Proof.Machine.execTimerExpMfBackResumeCycle env s
  | .timerExpMfFwdSafety env => Sys2Proof.Machine.execTimerExpMfFwdSafety env s
  | .timerExpDtmfStartDial env => Sys2Proof.Machine.execTimerExpDtmfStartDial env s
  | .timerExpCasPersistenceCheck env => Sys2Proof.Machine.execTimerExpCasPersistenceCheck env s
  | .makeCall category restricted env => Sys2Proof.Machine.execMakeCall category restricted env s
  | .acceptCall mode env => Sys2Proof.Machine.execAcceptCall mode env s
  | .answerCall env => Sys2Proof.Machine.execAnswerCall env s
  | .answerCallMode double env => Sys2Proof.Machine.execAnswerCallMode double env s
  | .disconnectCall cause env => Sys2Proof.Machine.execDisconnectCall cause env s
  | .ackCall env => Sys2Proof.Machine.execAckCall env s
  | .setIdle env => Sys2Proof.Machine.execSetIdle env s
  | .setBlocked env => Sys2Proof.Machine.execSetBlocked env s
  | .alarm raised env => Sys2Proof.Machine.execAlarm raised env s
  | .stageClr env => Sys2Proof.Machine.execStageClr env s
  | .stageAni digit env => Sys2Proof.Machine.execStageAni digit env s
  | .stageDnis digit env => Sys2Proof.Machine.execStageDnis digit env s

end Sys2Proof.Machine
end

