-- ==== Sys2Proof/Machine/Step.lean ====
section
/-! DEFINITION. One step of the machine: the reaction to the next word of the operation stream (spec/30_encoding.md R90,
spec/00_scope.md R10). There is no program counter (spec/10_state.md R26). -/

namespace Sys2Proof.Machine

/-- The reaction to a delivered word: its operation, or STATUS BadOp (R95). -/
def react (w : OpBits) (s : State) : Host.Outcome State Fault Refusal :=
  match decode w with
  | .instr i => exec i s
  | .illegal _ => illegalWord s

/-- One step. With no word waiting the block is idle and nothing changes (R355; log entry 4). -/
def step (s : State) : Host.Outcome State Fault Refusal :=
  match fetch s with
  | some (w, s') => react w s'
  | none => .next s

/-- `s` with a table word as the next word of the operation stream, no response words with it (log entry 4). -/
def State.withFetchWord (s : State) (nbits w : Nat) : State :=
  { s with input := { word := BitVec.ofNat 16 (w % 2 ^ nbits), responses := [] } :: s.input }

end Sys2Proof.Machine
end

