-- ==== Sys2Proof/Machine/Output.lean ====
section
/-! DEFINITION. The 16-bit word of each output action (spec/30_encoding.md R100) with the numbers of R33, R106, R107, R108. -/

namespace Sys2Proof.Machine

/-- R27: the 4-bit number of a named signal or of None. -/
def signalNumber : Option Signal → BitVec 4
  | some .idle => 0
  | some .block => 1
  | some .seize => 2
  | some .seizeAck => 3
  | some .clearBack => 4
  | some .forcedRelease => 5
  | some .clearForward => 6
  | some .answer => 7
  | none => 15

/-- R106. -/
def Status.number : Status → BitVec 4
  | .ok => 0
  | .fail => 1
  | .ioError => 2
  | .ignored => 3
  | .badOp => 4

/-- R108. -/
def ErrorKind.number : ErrorKind → BitVec 4
  | .invalidCasBits => 0
  | .invalidMfTone => 1
  | .invalidMfState => 2
  | .invalidMfGroup => 3
  | .invalidR2State => 4
  | .backMfTimeout => 5
  | .fwdSafetyTimeout => 6
  | .seizeTimeout => 7
  | .answerTimeout => 8
  | .brokenMfSequence => 9
  | .libraryBug => 10
  | .internalError => 11
  | .alarmRaised => 12

/-- R107: 1 line read, 2 line write, 3 tone flush. -/
def OsError.number : OsError → BitVec 4
  | .lineRead => 1
  | .lineWrite => 2
  | .toneFlush => 3

/-- R107: the event number. -/
def Event.number : Event → BitVec 4
  | .callInit => 0
  | .callOffered _ => 1
  | .callAccepted _ => 2
  | .callAnswered => 3
  | .callProceed => 4
  | .callDisconnect _ => 5
  | .callEnd => 6
  | .lineIdle => 7
  | .lineBlocked => 8
  | .billingPulseReceived => 9
  | .callLogCreated => 10
  | .protocolError _ => 11
  | .osError _ => 12
  | .dnisDigitReceived _ => 13
  | .aniDigitReceived _ => 14

/-- R107: the event payload, `[7:0]`. -/
def Event.payload : Event → BitVec 8
  | .callInit => 0
  | .callOffered category => category.zeroExtend 8
  | .callAccepted mode => BitVec.ofNat 8 mode.number
  | .callAnswered => 0
  | .callProceed => 0
  | .callDisconnect cause => BitVec.ofNat 8 cause.number
  | .callEnd => 0
  | .lineIdle => 0
  | .lineBlocked => 0
  | .billingPulseReceived => 0
  | .callLogCreated => 0
  | .protocolError kind => kind.number.zeroExtend 8
  | .osError what => what.number.zeroExtend 8
  | .dnisDigitReceived digit => digit.zeroExtend 8
  | .aniDigitReceived digit => digit.zeroExtend 8

/-- R33: the timer number in a payload. -/
def timerNumber (t : Timer) : BitVec 4 := BitVec.ofNat 4 t.index

/-- R100: `kind` in bits 15:12. -/
def Action.kind : Action → BitVec 4
  | .status _ => 0
  | .evt _ => 1
  | .setLine _ => 2
  | .flush => 3
  | .tone _ => 4
  | .tmrArm _ _ => 5
  | .tmrCancel _ => 6
  | .mfInit _ => 7
  | .mfDispose _ => 8
  | .dtmfRxInit => 9
  | .dtmfTxInit => 10
  | .dtmfTiming _ _ => 11
  | .dtmfPut _ => 12
  | .logTx _ _ => 13
  | .logRx _ _ => 14
  | .logSnap _ => 15

/-- R100: the payload in bits 11:0, unused bits 0. -/
def Action.payload : Action → BitVec 12
  | .status s => s.number.zeroExtend 12
  | .evt e => e.number ++ e.payload
  | .setLine raw => raw.zeroExtend 12
  | .flush => 0
  | .tone t => t.zeroExtend 12
  | .tmrArm t _ => (timerNumber t).zeroExtend 12
  | .tmrCancel t => (timerNumber t).zeroExtend 12
  | .mfInit read => (BitVec.ofBool read).zeroExtend 12
  | .mfDispose read => (BitVec.ofBool read).zeroExtend 12
  | .dtmfRxInit => 0
  | .dtmfTxInit => 0
  | .dtmfTiming _ _ => 0
  | .dtmfPut d => d.zeroExtend 12
  | .logTx sig raw => (signalNumber (some sig) ++ raw).zeroExtend 12
  | .logRx sig raw => (signalNumber sig ++ raw).zeroExtend 12
  | .logSnap kind => kind.number.zeroExtend 12

/-- R100: the word of an output action. -/
def Action.word (a : Action) : ActionBits := a.kind ++ a.payload

/-- The output trace of the last operation as words (R100). -/
def State.outWords (s : State) : List ActionBits := s.out.map Action.word

end Sys2Proof.Machine
end

