-- ==== Sys2Proof/Safety.lean ====
section
/-! DEFINITION. What the claims are written in: an application that does not re-enter, the actions and registers an operation
leaves, the requests of the backward side (spec/41_tone_events.md R187, R188) and what the forward side latches (R214, R215),
and the invariants of spec/10_state.md section 7 (R50, R51, R54) with spec/44_lifecycle_overlay.md R310 and R313. -/

namespace Sys2Proof.Machine

/-- The application answers no event of this operation with a nested operation (R96: `has_op` = 0 in every response). -/
def NoReentry (s : State) : Prop := ∀ r ∈ s.resp, respHasOp r = false

/-- The response word nests ALARM 1 (R97, R296). -/
def nestsAlarm (r : RespBits) : Bool :=
  respHasOp r &&
    match decode (respOpWord r) with
    | .instr (.alarm raised _) => raised
    | _ => false

/-- The timers in the order of R33. -/
def allTimers : List Timer := callTimers ++ [.casPersistenceCheck]

/-- One TMR_CANCEL for each live timer of a list, in order (R243). -/
def cancelsOf (ts : List Timer) (s : State) : List Action :=
  (ts.filter (fun t => isArmed t s)).map Action.tmrCancel

/-- The actions of `TxSignal(sig)` that succeeds (R134). -/
def lineActions (c : Cfg) (sig : Signal) : List Action := [.setLine (txRawOf c sig), .logTx sig (txRawOf c sig)]

/-- The actions of `Arm(t)` (R241). -/
def armActions (t : Timer) (s : State) : List Action := cancelsOf [t] s ++ [.tmrArm t (duration s.cfg t)]

/-- The actions of `SetTone(t)` that succeeds (R183). -/
def toneActions (t : Tone) (s : State) : List Action :=
  if t = s.mfWriteTone then [] else if t = 0 then [.tone 0] else [.flush, .tone t]

/-- The bits of `armed` that stay when each timer of a list is cancelled (R242). -/
def withoutTimers (ts : List Timer) (armed : BitVec 12) : BitVec 12 := ts.foldl (fun a t => a &&& ~~~timerBit t) armed

/-- The registers after `ResetBaseline()` (R362), the trace left out. -/
def baselineOf (s : State) : State :=
  { s with
    casState := .idle
    mfState := .off
    mfGroup := .noGroup
    callState := .idle
    direction := .stopped
    ani := []
    dnis := []
    dnisIndex := 0
    aniPtr := 0
    mfWriteTone := 0
    mfReadTone := 0
    callerCategory := 0
    aniRestricted := false
    answered := false
    categorySent := false
    dnisDone := false
    aniDone := false
    acceptMode := .charge
    mfLive := false
    dtmfRxLive := false
    dtmfTxLive := false
    armed := 0
    pendingValid := false }

/-- The actions of `ResetBaseline()` (R362). -/
def baselineActions (s : State) : List Action := cancelsOf allTimers s ++ releaseActions s

/-- The transmit registers after `TxSignal(sig)` (R134): the code written, as R2 sees it, and the signal. -/
def transmitted (sig : Signal) (s : State) : State :=
  { s with txRaw := txRawOf s.cfg sig, txCode := code s.cfg sig, txSig := some sig }

/-- The engines released (R185) and `mf_state` Off. -/
def released (s : State) : State :=
  { s with mfLive := false, dtmfRxLive := false, dtmfTxLive := false, mfWriteTone := 0, mfReadTone := 0, mfState := .off }

/-- A complete top-level operation: its trace is `acts` and then the STATUS, its response words are gone. -/
def ended (acts : List Action) (st : Status) (s : State) : State := { s with out := acts ++ [.status st], resp := [] }

/-- The actions of the error path met after the actions `acts` (R331). -/
def errorActions (kind : ErrorKind) (env : Env) (acts : List Action) (s : State) : List Action :=
  acts ++ [.logSnap kind] ++ (if env.werr then [Action.evt (.osError .lineWrite)] else lineActions s.cfg .idle) ++
    baselineActions s ++ [Action.evt (.protocolError kind)]

/-- A protocol error of a kind met after the actions `acts` (R331): the channel at the baseline, Idle transmitted unless the
line cannot be written, and STATUS Ok. -/
def errorEnded (kind : ErrorKind) (env : Env) (acts : List Action) (s : State) : State :=
  ended (errorActions kind env acts s) .ok (baselineOf (if env.werr then s else transmitted .idle s))

/-- The receive registers after `Commit(raw)` (R133), before the table row: nothing pending, the persistence check gone. -/
def committed (raw : LineCode) (sig : Option Signal) (s : State) : State :=
  { s with
    rxRaw := raw
    rxCode := maskCode s.cfg raw
    rxValid := true
    rxSig := sig
    pendingValid := false
    armed := withoutTimers [.casPersistenceCheck] s.armed }

/-- The actions of `Commit(raw)` (R133), before the table row. -/
def commitActions (raw : LineCode) (sig : Option Signal) (s : State) : List Action :=
  cancelsOf [.casPersistenceCheck] s ++ [.logRx sig raw]

/-- A LINE word that is committed at once (R130, R131): no alarm, the line read, the masked code `r` differs from the
committed one, no debounce configured. -/
def LineCommits (env : Env) (r : LineCode) (s : State) : Prop :=
  s.alarm = false ∧ env.lerr = false ∧ r = maskCode s.cfg env.line ∧ ¬ (s.rxValid = true ∧ r = s.rxCode) ∧
    debounce s.cfg = false

/-- The lifecycle events in a trace, in order. -/
def eventsOf (acts : List Action) : List Event :=
  acts.filterMap fun a => match a with
    | .evt e => some e
    | _ => none

/-- The channel with no persistence check configured (R43, R49) and no committed value, where LINE commits every sample
(R131). -/
def undebounced (s : State) : State :=
  let timer := s.cfg.timer
  { s with cfg := { s.cfg with timer := { timer with casPersistenceCheck := 0 } }, rxValid := false }

/-- The response words the error path reads: one, and one more where the line cannot be written (R331). -/
def errorResponses (env : Env) : Nat := if env.werr then 2 else 1

/-- The channel after an alarm clears over a pending call (R297, R331), before the sample is taken: the response words of the
error path's events are used up. -/
def droppedCall (env : Env) (s : State) : State :=
  let base := baselineOf (if env.werr then s else transmitted .idle s)
  { base with alarm := false, rxValid := false, resp := s.resp.drop (errorResponses env) }

/-- How often a timer is cancelled in a trace. -/
def cancelCount (t : Timer) (acts : List Action) : Nat := acts.count (.tmrCancel t)

/-- Operations in order, each with no response words: the last state, and the lifecycle events of all. -/
def runOps : List Instr → State → Option (State × List Event)
  | [], s => some (s, [])
  | i :: is, s =>
    match exec i s with
    | .next t => (runOps is t).map fun r => (r.1, eventsOf t.out ++ r.2)
    | .fault _ => none
    | .refused _ => none

/-- An action without what travels beside its word (R43, R48, R100). -/
def wordPart : Action → Action
  | .tmrArm t _ => .tmrArm t 0
  | .dtmfTiming _ _ => .dtmfTiming 0 0
  | .status st => .status st
  | .evt e => .evt e
  | .setLine raw => .setLine raw
  | .flush => .flush
  | .tone t => .tone t
  | .tmrCancel t => .tmrCancel t
  | .mfInit read => .mfInit read
  | .mfDispose read => .mfDispose read
  | .dtmfRxInit => .dtmfRxInit
  | .dtmfTxInit => .dtmfTxInit
  | .dtmfPut d => .dtmfPut d
  | .logTx sig raw => .logTx sig raw
  | .logRx sig raw => .logRx sig raw
  | .logSnap kind => .logSnap kind

/-- The first test of a list that holds names the signal (R136). -/
def firstMatch : List (Bool × Signal) → Option Signal
  | [] => none
  | (holds, sig) :: rest => if holds then some sig else firstMatch rest

/-- The tests of `Classify` (R135), as R136 uses them. -/
def classifyTests (c : Cfg) (r : LineCode) : List (Bool × Signal) :=
  [(r == code c .clearBack, .clearBack), (!c.frIsSeizeAck && r == code c .forcedRelease, .forcedRelease)]

/-- A tone detected while the engine is live and no tone was on (R191). -/
def ToneStarts (t : Tone) (s : State) : Prop := s.alarm = false ∧ s.mfLive = true ∧ s.mfReadTone = 0 ∧ t ≠ 0

/-- The end of a tone that was on (R192). -/
def ToneStops (s : State) : Prop := s.alarm = false ∧ s.mfLive = true ∧ s.mfReadTone ≠ 0

/-- The state in which the backward side reads a tone (R191, R195): the tone noted, the two cycle timers cancelled. -/
def heardBackward (t : Tone) (s : State) : State :=
  { s with mfReadTone := t, armed := withoutTimers [.mfBackCycle, .mfBackResumeCycle] s.armed }

/-- The actions before the backward side reads a tone (R195). -/
def backwardActions (s : State) : List Action := cancelsOf [.mfBackCycle, .mfBackResumeCycle] s

/-- The state in which the forward side reads a tone (R191, R211): the tone noted, the safety timer cancelled, the own tone
muted. -/
def heardForward (t : Tone) (s : State) : State :=
  { s with mfReadTone := t, mfWriteTone := 0, armed := withoutTimers [.mfFwdSafety] s.armed }

/-- The actions before the forward side reads a tone (R211). -/
def forwardActions (s : State) : List Action := cancelsOf [.mfFwdSafety] s ++ toneActions 0 s

/-- A timer that expires while it is live and no alarm is on (R244). -/
def Expires (t : Timer) (s : State) : Prop := s.alarm = false ∧ isArmed t s = true

/-- The state in which the effect of an expiry runs (R244). -/
def fired (t : Timer) (s : State) : State := { s with armed := withoutTimers [t] s.armed }

/-! ### The requests of the backward side and the answers of the forward side -/

/-- What the backward side asks for next (R188). -/
inductive Phase where
  | dnis | category | ani | finish
  deriving DecidableEq, Repr

/-- The choice of `NextRequest` (R188). -/
def nextPhase (s : State) : Phase :=
  let wantsDnis := !s.dnisDone
  let wantsCategory := !s.cfg.skipCategory && s.callerCategory == 0
  let wantsAni := !s.cfg.skipCategory && s.cfg.maxAni != 0 && !s.aniDone
  if s.cfg.getAniFirst && s.cfg.aniCanComeFirst && decide (1 ≤ s.dnisLen) then
    if wantsCategory then .category else if wantsAni then .ani else if wantsDnis then .dnis else .finish
  else if wantsDnis then .dnis else if wantsCategory then .category else if wantsAni then .ani else .finish

/-- Whether the collection ends with the Group A accept signal (R188, `Finish`). -/
def acceptsAtOnce (c : Cfg) : Bool := c.immediateAccept && c.ga.addressCompleteChargeSetup != 0

/-- Whether the category is asked for together with the change to Group C (R188, `RequestCategory`). -/
def asksForGroupC (s : State) : Bool := s.cfg.ga.requestCategoryAndChangeToGc != 0 && decide (s.mfGroup = .ga)

/-- The tone of a request (R188); 0 where the variant lacks the signal. -/
def phaseTone (s : State) : Phase → Tone
  | .dnis =>
    if s.mfGroup = .gc then s.cfg.gc.requestNextDnisDigitAndChangeToGa else s.cfg.ga.requestNextDnisDigit
  | .category => if asksForGroupC s then s.cfg.ga.requestCategoryAndChangeToGc else s.cfg.ga.requestCategory
  | .ani => if s.mfGroup = .gc then s.cfg.gc.requestNextAniDigit else s.cfg.ga.requestNextAniDigit
  | .finish =>
    if acceptsAtOnce s.cfg then s.cfg.ga.addressCompleteChargeSetup
    else if s.mfGroup = .gc then s.cfg.gc.requestChangeToG2 else s.cfg.ga.requestChangeToG2

/-- The MF state a request leads to (R188). -/
def phaseState (s : State) : Phase → MfState
  | .dnis => .dnisRqTxd
  | .category => .categoryRqTxd
  | .ani => .aniRqTxd
  | .finish => if acceptsAtOnce s.cfg then .acceptedTxd else .chgGiiTxd

/-- The MF group after a request (R188). -/
def phaseGroup (s : State) : Phase → MfGroup
  | .dnis => if s.mfGroup = .gc then .ga else s.mfGroup
  | .category => if asksForGroupC s then .gc else s.mfGroup
  | .ani => s.mfGroup
  | .finish => s.mfGroup

/-- The accept mode after a request (R188, R218). -/
def phaseMode (s : State) : Phase → Mode
  | .finish => if acceptsAtOnce s.cfg then modeOfTone s.cfg s.cfg.ga.addressCompleteChargeSetup else s.acceptMode
  | .dnis => s.acceptMode
  | .category => s.acceptMode
  | .ani => s.acceptMode

/-- An operation that ends with the next request, after the actions `acts` (R187, R188); as a pulse it is timed by
mf_back_resume_cycle. A tone whose buffer cannot be flushed ends it there (R183, R338), with the accept mode set already. -/
def asked (pulse : Bool) (env : Env) (acts : List Action) (s : State) : State :=
  let phase := nextPhase s
  let timer := if pulse then Timer.mfBackResumeCycle else Timer.mfBackCycle
  if phaseTone s phase = 0 then errorEnded .invalidMfTone env acts s
  else if env.werr = true ∧ phaseTone s phase ≠ s.mfWriteTone then
    ended (acts ++ [Action.evt (.osError .toneFlush)]) .ioError { s with acceptMode := phaseMode s phase }
  else
    ended (acts ++ toneActions (phaseTone s phase) s ++ armActions timer s) .ok
      { s with
        mfWriteTone := phaseTone s phase
        mfState := phaseState s phase
        mfGroup := phaseGroup s phase
        acceptMode := phaseMode s phase
        armed := s.armed ||| timerBit timer }

/-- An operation that ends with the wait for the backward side's safety pulse (R214, R215). -/
def waits (acts : List Action) (s : State) : State :=
  ended (acts ++ armActions .mfFwdSafety s) .ok
    { s with mfState := .waitingTimeout, armed := s.armed ||| timerBit .mfFwdSafety }

/-- An operation that ends with DNIS digit `i` latched (R214). -/
def dnisLatched (i : Nat) (acts : List Action) (s : State) : State :=
  if i < s.dnisLen then ended acts .ok { s with dnisIndex := BitVec.ofNat 6 i, mfState := .dnisTxd }
  else if s.cfg.g1.noMoreDnisAvailable ≠ 0 then ended acts .ok { s with mfState := .dnisEndTxd }
  else waits acts s

/-- An operation that ends with the next ANI digit latched (R215). -/
def aniLatched (acts : List Action) (s : State) : State :=
  if s.aniRestricted = true ∧ s.cfg.g1.callerAniIsRestricted ≠ 0 then ended acts .ok { s with mfState := .aniEndTxd }
  else if s.aniRestricted = false ∧ s.aniPtr.toNat < s.aniLen then ended acts .ok { s with mfState := .aniTxd }
  else if s.cfg.g1.noMoreAniAvailable ≠ 0 then ended acts .ok { s with mfState := .aniEndTxd }
  else waits acts s

/-- An operation that ends with the call accepted by tone (R224, R149). -/
def toneAccepted (mode : Mode) (acts : List Action) (s : State) : State :=
  if s.casState = .answerRxdMfPending then
    ended (acts ++ cancelsOf [.answer] s ++ [Action.evt (.callAccepted mode), .evt .callAnswered]) .ok
      { s with
        mfState := .off
        casState := .answerRxd
        callState := .answered
        answered := true
        armed := withoutTimers [.answer] s.armed }
  else
    ended (acts ++ armActions .answer s ++ [Action.evt (.callAccepted mode)]) .ok
      { s with
        mfState := .off
        casState := .acceptRxd
        callState := .accepted
        armed := s.armed ||| timerBit .answer }

/-- An operation that ends with the call refused by tone (R225), the answer timer cancelled (R245; log entry 16). -/
def toneRefused (cause : Cause) (acts : List Action) (s : State) : State :=
  ended (acts ++ cancelsOf [.answer] s ++ [Action.evt (.callDisconnect cause)]) .ok
    { s with
      mfState := .off
      casState := .clearBackToneRxd
      callState := .disconnected
      armed := withoutTimers [.answer] s.armed }

/-- The guard of MAKE_CALL (R272). -/
def CanDial (category : Category) (s : State) : Prop :=
  s.alarm = false ∧ s.callState = .idle ∧ s.casState = .idle ∧ s.rxValid = true ∧ s.rxCode = code s.cfg .idle ∧
    s.stageAniLen ≤ s.cfg.maxAni.toNat ∧ s.stageDnisLen ≤ s.cfg.maxDnis.toNat ∧
    (s.cfg.dialWithDtmf = true ∨
      (categoryTone s.cfg category ≠ 0 ∧ (∀ d ∈ s.stageAni, d.toNat ≤ 9) ∧ ∀ d ∈ s.stageDnis, d.toNat ≤ 9))

/-- The guard of ACCEPT_CALL (R276). -/
def CanAccept (s : State) : Prop :=
  s.alarm = false ∧ s.callState = .offered ∧ s.direction = .backward ∧ s.casState = .seizeAckTxd ∧
    s.mfState ≠ .acceptedTxd ∧ s.mfState ≠ .disconnectTxd ∧ isArmed .answerDelay s = false

/-- `AnswerGuard` (R280). -/
def CanAnswer (s : State) : Prop :=
  s.alarm = false ∧ s.direction = .backward ∧ s.casState = .seizeAckTxd ∧
    (s.callState = .accepted ∨ (s.callState = .offered ∧ s.mfGroup = .dtmfBackInit))

/-- A disconnect-cause tone is due (R286). -/
def ToneDue (cause : Cause) (s : State) : Prop :=
  s.callState = .offered ∧ s.mfLive = true ∧ s.mfGroup = .gb ∧ s.mfState = .chgGiiTxd ∧ causeTone s.cfg cause ≠ 0

/-- The tone the forward side owes at the end of the backward tone (R220). -/
def ToneIsDue (t : Tone) (s : State) : Prop :=
  (∃ d : Digit, d.toNat ≤ 9 ∧ t = digitTone d ∧
    ((s.mfState = .dnisTxd ∧ s.dnis[s.dnisIndex.toNat]? = some d) ∨
      (s.mfState = .aniTxd ∧ s.ani[s.aniPtr.toNat]? = some d))) ∨
  (s.mfState = .dnisEndTxd ∧ t = s.cfg.g1.noMoreDnisAvailable) ∨
  (s.mfState = .aniEndTxd ∧
    t = (if s.aniRestricted = true ∧ s.cfg.g1.callerAniIsRestricted ≠ 0 then s.cfg.g1.callerAniIsRestricted
      else s.cfg.g1.noMoreAniAvailable)) ∨
  (s.mfState = .categoryTxd ∧ t = s.callerCategory)

/-! ### Operations by kind -/

/-- The call-control operations, the ones a response word may nest (R97: op 0x08 to 0x13). -/
def isCallControl : Instr → Bool
  | .makeCall _ _ _ => true
  | .acceptCall _ _ => true
  | .answerCall _ => true
  | .answerCallMode _ _ => true
  | .disconnectCall _ _ => true
  | .ackCall _ => true
  | .setIdle _ => true
  | .setBlocked _ => true
  | .alarm _ _ => true
  | .stageClr _ => true
  | .stageAni _ _ => true
  | .stageDnis _ _ => true
  | .line _ => false
  | .toneOn _ _ => false
  | .toneOff _ => false
  | .dtmfDigit _ _ => false
  | .timerExpSeize _ => false
  | .timerExpSeizePersist _ => false
  | .timerExpAnswer _ => false
  | .timerExpAnswerDelay _ => false
  | .timerExpDoubleAnswer _ => false
  | .timerExpSetCallDown _ => false
  | .timerExpMeteringPulse _ => false
  | .timerExpMfBackCycle _ => false
  | .timerExpMfBackResumeCycle _ => false
  | .timerExpMfFwdSafety _ => false
  | .timerExpDtmfStartDial _ => false
  | .timerExpCasPersistenceCheck _ => false

/-- The timer a TIMER_EXP operation is about (R244). -/
def expiredTimer : Instr → Option Timer
  | .timerExpSeize _ => some .seize
  | .timerExpSeizePersist _ => some .seizePersist
  | .timerExpAnswer _ => some .answer
  | .timerExpAnswerDelay _ => some .answerDelay
  | .timerExpDoubleAnswer _ => some .doubleAnswer
  | .timerExpSetCallDown _ => some .setCallDown
  | .timerExpMeteringPulse _ => some .meteringPulse
  | .timerExpMfBackCycle _ => some .mfBackCycle
  | .timerExpMfBackResumeCycle _ => some .mfBackResumeCycle
  | .timerExpMfFwdSafety _ => some .mfFwdSafety
  | .timerExpDtmfStartDial _ => some .dtmfStartDial
  | .timerExpCasPersistenceCheck _ => some .casPersistenceCheck
  | .line _ => none
  | .toneOn _ _ => none
  | .toneOff _ => none
  | .dtmfDigit _ _ => none
  | .makeCall _ _ _ => none
  | .acceptCall _ _ => none
  | .answerCall _ => none
  | .answerCallMode _ _ => none
  | .disconnectCall _ _ => none
  | .ackCall _ => none
  | .setIdle _ => none
  | .setBlocked _ => none
  | .alarm _ _ => none
  | .stageClr _ => none
  | .stageAni _ _ => none
  | .stageDnis _ _ => none

/-- The environment fields of an operation (R94). -/
def envOf (i : Instr) : Env :=
  match i with
  | .line env => env
  | .toneOn _ env => env
  | .toneOff env => env
  | .dtmfDigit _ env => env
  | .timerExpSeize env => env
  | .timerExpSeizePersist env => env
  | .timerExpAnswer env => env
  | .timerExpAnswerDelay env => env
  | .timerExpDoubleAnswer env => env
  | .timerExpSetCallDown env => env
  | .timerExpMeteringPulse env => env
  | .timerExpMfBackCycle env => env
  | .timerExpMfBackResumeCycle env => env
  | .timerExpMfFwdSafety env => env
  | .timerExpDtmfStartDial env => env
  | .timerExpCasPersistenceCheck env => env
  | .makeCall _ _ env => env
  | .acceptCall _ env => env
  | .answerCall env => env
  | .answerCallMode _ env => env
  | .disconnectCall _ env => env
  | .ackCall env => env
  | .setIdle env => env
  | .setBlocked env => env
  | .alarm _ env => env
  | .stageClr env => env
  | .stageAni _ env => env
  | .stageDnis _ env => env

/-- The call-control operations that fail while the alarm is on (R274). -/
def alarmFails : Instr → Bool
  | .makeCall _ _ _ => true
  | .acceptCall _ _ => true
  | .answerCall _ => true
  | .answerCallMode _ _ => true
  | .disconnectCall _ _ => true
  | .ackCall _ => true
  | .line _ => false
  | .toneOn _ _ => false
  | .toneOff _ => false
  | .dtmfDigit _ _ => false
  | .timerExpSeize _ => false
  | .timerExpSeizePersist _ => false
  | .timerExpAnswer _ => false
  | .timerExpAnswerDelay _ => false
  | .timerExpDoubleAnswer _ => false
  | .timerExpSetCallDown _ => false
  | .timerExpMeteringPulse _ => false
  | .timerExpMfBackCycle _ => false
  | .timerExpMfBackResumeCycle _ => false
  | .timerExpMfFwdSafety _ => false
  | .timerExpDtmfStartDial _ => false
  | .timerExpCasPersistenceCheck _ => false
  | .setIdle _ => false
  | .setBlocked _ => false
  | .alarm _ _ => false
  | .stageClr _ => false
  | .stageAni _ _ => false
  | .stageDnis _ _ => false

/-! ### Invariants -/

/-- The side column of R21; `unassigned` for the values that are no valid state. -/
def sideOf : CasState → Direction
  | .init => .stopped
  | .idle => .stopped
  | .blocked => .stopped
  | .seizeRxd => .backward
  | .seizeAckTxd => .backward
  | .answerTxd => .backward
  | .executingDoubleAnswer => .backward
  | .clearBackTxd => .backward
  | .clearForwardRxd => .backward
  | .seizeTxd => .forward
  | .seizeAckRxd => .forward
  | .acceptRxd => .forward
  | .answerRxdMfPending => .forward
  | .answerRxd => .forward
  | .clearBackRxd => .forward
  | .forcedReleaseRxd => .forward
  | .clearBackToneRxd => .forward
  | .clearForwardTxd => .forward
  | .doubleSeizure => .forward
  | .doubleSeizureClearFwdPending => .forward
  | .invalid => .unassigned
  | .unassigned _ => .unassigned

/-- The call states of a side (R310: "The forward side has no Offered phase; the backward side has no Dialing phase"). -/
def callStateFits : Direction → CallState → Bool
  | .stopped, c => decide (c = .idle)
  | .backward, c => [CallState.collecting, .offered, .accepted, .answered, .disconnected].contains c
  | .forward, c => [CallState.dialing, .accepted, .answered, .disconnected].contains c
  | .unassigned, _ => false

/-- The MF groups of a side (R23, R313). -/
def groupFits : Direction → MfGroup → Bool
  | .stopped, g => decide (g = .noGroup)
  | .backward, g => [MfGroup.backInit, .ga, .gb, .gc, .dtmfBackInit].contains g
  | .forward, g => [MfGroup.fwdInit, .gi, .gii, .giii, .dtmfFwdInit].contains g
  | .unassigned, _ => false

/-- The MF states of a side (R22, R313). -/
def mfStateFits : Direction → MfState → Bool
  | .stopped, m => decide (m = .off)
  | .backward, m =>
      [MfState.off, .seizeAckTxd, .categoryRqTxd, .dnisRqTxd, .aniRqTxd, .chgGiiTxd, .acceptedTxd, .disconnectTxd,
       .detectingDtmf].contains m
  | .forward, m =>
      [MfState.off, .categoryTxd, .dnisTxd, .dnisEndTxd, .aniTxd, .aniEndTxd, .waitingTimeout, .dialingDtmf].contains m
  | .unassigned, _ => false

/-- The answered line states of R50. -/
def answeredCas (c : CasState) : Bool := [CasState.answerTxd, .answerRxd, .executingDoubleAnswer].contains c

/-- The MF states an answered call can be in (R313: rows Answered). -/
def answeredMf (m : MfState) : Bool := [MfState.off, .dialingDtmf].contains m

/-- R22, R313: forward DTMF dialling goes with its group, both ways. -/
def dialingFits (s : State) : Bool :=
  (decide (s.mfState ≠ .dialingDtmf) || decide (s.mfGroup = .dtmfFwdInit)) &&
    (decide (s.mfGroup ≠ .dtmfFwdInit) || answeredMf s.mfState)

/-- R313: the forward exchange runs only between Seize-Ack and the accept or disconnect tone. -/
def exchangeFits (s : State) : Bool :=
  !([MfState.categoryTxd, .dnisTxd, .dnisEndTxd, .aniTxd, .aniEndTxd, .waitingTimeout].contains s.mfState) ||
    [CasState.seizeAckRxd, .answerRxdMfPending].contains s.casState

/-- The coupled state vector by side (R20; the rows of R313 are `vectorListed`): the side of `cas_state` is `direction`; `call_state`, `mf_group` and `mf_state`
are of that side (so `direction` = Stopped iff `call_state` = Idle iff `cas_state` is Init, Idle or Blocked); Answered
implies an answered `cas_state` (R50). -/
def vectorCoupled (s : State) : Bool :=
  decide (sideOf s.casState = s.direction) && callStateFits s.direction s.callState &&
    groupFits s.direction s.mfGroup && mfStateFits s.direction s.mfState &&
    (decide (s.callState ≠ .answered) || (answeredCas s.casState && answeredMf s.mfState)) && dialingFits s &&
    exchangeFits s

/-- A row of the table of R313: the combinations of one value of each column. -/
structure VectorRow where
  cas : List CasState
  side : Direction
  calls : List CallState
  groups : List MfGroup
  states : List MfState
  deriving DecidableEq, Repr

/-- The state vector is in a row. -/
def inRow (s : State) (r : VectorRow) : Bool :=
  r.cas.contains s.casState && decide (s.direction = r.side) && r.calls.contains s.callState &&
    r.groups.contains s.mfGroup && r.states.contains s.mfState

/-- The backward rows of R313, in its order. The row of Offered in Group B is two: with DisconnectTxd "then `call_state`
Disconnected". -/
def backwardRows : List VectorRow :=
  [⟨[.seizeRxd], .backward, [.collecting], [.backInit], [.off]⟩,
   ⟨[.seizeAckTxd], .backward, [.collecting], [.backInit], [.seizeAckTxd]⟩,
   ⟨[.seizeAckTxd], .backward, [.collecting], [.ga, .gc], [.categoryRqTxd, .dnisRqTxd, .aniRqTxd, .chgGiiTxd, .acceptedTxd]⟩,
   ⟨[.seizeAckTxd], .backward, [.collecting], [.dtmfBackInit], [.detectingDtmf]⟩,
   ⟨[.seizeAckTxd], .backward, [.offered], [.gb], [.chgGiiTxd, .acceptedTxd]⟩,
   ⟨[.seizeAckTxd], .backward, [.disconnected], [.gb], [.disconnectTxd]⟩,
   ⟨[.seizeAckTxd], .backward, [.offered, .accepted], [.ga, .gc, .dtmfBackInit], [.off]⟩,
   ⟨[.seizeAckTxd], .backward, [.accepted], [.gb], [.off]⟩,
   ⟨[.answerTxd, .executingDoubleAnswer], .backward, [.answered], [.ga, .gb, .gc, .dtmfBackInit], [.off]⟩,
   ⟨[.clearBackTxd, .clearForwardRxd], .backward, [.disconnected], [.backInit, .ga, .gb, .gc, .dtmfBackInit], [.off]⟩]

/-- The forward rows of R313, in its order. The row of AnswerRxd is two: DialingDtmf goes with DtmfFwdInit, as in the row of
SeizeAckRxd (log entry 18). -/
def forwardRows : List VectorRow :=
  [⟨[.seizeTxd], .forward, [.dialing], [.fwdInit, .dtmfFwdInit], [.off]⟩,
   ⟨[.seizeAckRxd, .answerRxdMfPending], .forward, [.dialing], [.gi, .gii, .giii],
     [.categoryTxd, .dnisTxd, .dnisEndTxd, .aniTxd, .aniEndTxd, .waitingTimeout]⟩,
   ⟨[.seizeAckRxd], .forward, [.dialing], [.dtmfFwdInit], [.off, .dialingDtmf]⟩,
   ⟨[.acceptRxd], .forward, [.accepted], [.gi, .gii], [.off]⟩,
   ⟨[.answerRxd], .forward, [.answered], [.gi, .gii], [.off]⟩,
   ⟨[.answerRxd], .forward, [.answered], [.dtmfFwdInit], [.off, .dialingDtmf]⟩,
   ⟨[.clearBackRxd, .forcedReleaseRxd], .forward, [.disconnected], [.gi, .gii, .giii, .dtmfFwdInit], [.off]⟩,
   ⟨[.clearBackToneRxd], .forward, [.disconnected], [.gi, .gii, .giii], [.off]⟩,
   ⟨[.clearForwardTxd], .forward, [.disconnected], [.fwdInit, .gi, .gii, .giii, .dtmfFwdInit], [.off]⟩,
   ⟨[.doubleSeizure, .doubleSeizureClearFwdPending], .forward, [.disconnected], [.fwdInit, .dtmfFwdInit], [.off]⟩]

/-- The rows of R313: with no call, backward, forward. -/
def tableRows : List VectorRow :=
  [⟨[.init, .idle, .blocked], .stopped, [.idle], [.noGroup], [.off]⟩] ++ backwardRows ++ forwardRows

/-- The combinations the rules reach beside the table (DEDUCED, log entry 18): the answer delay after the accept tone (R206, R262);
a first request that ends the operation (R196, R338); a nested operation that ends it inside call-accepted (R149, R338), and
inside the error of an engine failure at Seize-Ack (R143, R184, R338), with what follows from there. -/
def furtherRows : List VectorRow :=
  [⟨[.seizeAckTxd], .backward, [.offered], [.gb], [.off]⟩,
   ⟨[.seizeAckTxd], .backward, [.collecting], [.ga], [.seizeAckTxd]⟩,
   ⟨[.seizeAckRxd], .forward, [.accepted], [.dtmfFwdInit], [.off, .dialingDtmf]⟩,
   ⟨[.answerRxdMfPending], .forward, [.accepted], [.gi, .gii], [.off]⟩,
   ⟨[.seizeAckRxd, .answerRxdMfPending], .forward, [.dialing], [.fwdInit], [.off]⟩,
   ⟨[.clearBackRxd, .forcedReleaseRxd], .forward, [.disconnected], [.fwdInit], [.off]⟩]

/-- The state vector is in a row of R313, or in one of the rows beside it. -/
def vectorListed (s : State) : Bool := (tableRows ++ furtherRows).any (inRow s)

/-- The answer delay runs only between the accept and call-accepted (R253, R262). -/
def answerDelayFits (s : State) : Bool :=
  !isArmed .answerDelay s ||
    (decide (s.casState = .seizeAckTxd) && decide (s.callState = .offered) && decide (s.mfState = .off))

/-- R51, and the staging buffers within CAP (R70). -/
def lengthsBounded (s : State) : Bool :=
  decide (s.aniLen ≤ s.cfg.maxAni.toNat) && decide (s.dnisLen ≤ s.cfg.maxDnis.toNat) &&
    decide (s.stageAniLen ≤ Config.cap) && decide (s.stageDnisLen ≤ Config.cap)

/-- R34, R54 (e): a code is pending iff the persistence check is live. -/
def pendingMatches (s : State) : Bool := s.pendingValid == isArmed .casPersistenceCheck s

/-- R54 (c): with no call only the debounce timer may run. -/
def noStrayTimer (s : State) : Bool :=
  decide (s.direction ≠ .stopped) || (s.armed &&& ~~~timerBit .casPersistenceCheck == 0)

/-- The MF states in which an own tone may be selected. -/
def toneState (m : MfState) : Bool := !([MfState.off, .dialingDtmf, .detectingDtmf].contains m)

/-- R54 (b): a released MF engine is silent, with what keeps it so (R180: "The tone machine runs only while the MF engine
is live"): the tone states and SeizeRxd have a live engine, SeizeRxd has no exchange yet (R313), and the DTMF path has no tone
state. -/
def silentWhenReleased (s : State) : Bool :=
  (s.mfLive || s.mfWriteTone == 0) && (s.mfLive || !toneState s.mfState) &&
    (decide (s.casState ≠ .seizeRxd) || (s.mfLive && decide (s.mfState = .off) && decide (s.mfGroup = .backInit))) &&
    (decide (s.mfGroup ≠ .dtmfBackInit) || !toneState s.mfState)

/-- R54 (d): no timer runs and nothing is pending during an alarm. The rules keep it unless a callback raises the alarm inside a
rule that goes on (log entry 11). -/
def quietDuringAlarm (s : State) : Bool := !s.alarm || (s.armed == 0 && !s.pendingValid)

end Sys2Proof.Machine
end

