-- ==== Sys2Proof/Certificates/Slice0/Obligations.lean ====
section
/-! DEFINITION. The statements for the provers. Every next state is written out as a record over the state before, so each
statement is also its own frame: what the record does not name is as it was. A statement about a response says what the
application answers (`NoReentry`: it does not re-enter). There is no addressable memory (spec/20_memory.md R70, R76): the
digit buffers are fields of the state. -/

section
open Sys2Proof Sys2Proof.Machine

/-! ### Encodings -/

/-- spec/30_encoding.md sections 1 and 2 (R91, R92, R93): no bit of a well-formed operation is lost. -/
def Obligations.DecodeEncodeRoundTrip : Prop := ∀ i : Instr, i.wf = true → decode (encode i) = .instr i

/-- spec/30_encoding.md section 1 (R92, R93), section 2 (R95): the illegal words are those and no others. -/
def Obligations.IllegalWordsAreTheListedOnes : Prop := ∀ w : OpBits,
  (∃ why, decode w = .illegal why) ↔
    ((unpackWord w).op.toNat ∉
        [0x01, 0x02, 0x03, 0x04, 0x05, 0x08, 0x09, 0x0A, 0x0B, 0x0C, 0x0D, 0x0E, 0x0F, 0x10, 0x11, 0x12, 0x13] ∨
      ((unpackWord w).op = 0x02 ∧ (unpackWord w).arg = 0) ∨
      ((unpackWord w).op = 0x05 ∧ 12 ≤ (unpackWord w).arg.toNat) ∨
      ((unpackWord w).op = 0x0C ∧ 10 ≤ (unpackWord w).arg.toNat) ∨
      ((unpackWord w).op = 0x08 ∧ 6 ≤ (unpackWord w).arg.toNat / 2))

/-- spec/30_encoding.md section 1 (R91, R92, R93): the operation number, the operand and the environment of a legal word are
those of its operation. -/
def Obligations.WordsDecodeByOperationNumber : Prop := ∀ w : OpBits,
  ((unpackWord w).op = 0x01 → decode w = .instr (.line (unpackWord w).env)) ∧
  ((unpackWord w).op = 0x02 → (unpackWord w).arg ≠ 0 →
    decode w = .instr (.toneOn (unpackWord w).arg (unpackWord w).env)) ∧
  ((unpackWord w).op = 0x03 → decode w = .instr (.toneOff (unpackWord w).env)) ∧
  ((unpackWord w).op = 0x04 → decode w = .instr (.dtmfDigit (unpackWord w).arg (unpackWord w).env)) ∧
  (∀ t : Timer, (unpackWord w).op = 0x05 → (unpackWord w).arg.toNat = t.index →
    ∃ i, decode w = .instr i ∧ expiredTimer i = some t ∧ envOf i = (unpackWord w).env) ∧
  (∀ c : Category, (unpackWord w).op = 0x08 → (unpackWord w).arg.toNat / 2 = c.number →
    decode w = .instr (.makeCall c ((unpackWord w).arg.getLsbD 0) (unpackWord w).env)) ∧
  (∀ m : Mode, (unpackWord w).op = 0x09 → (unpackWord w).arg.toNat % 4 = m.number →
    decode w = .instr (.acceptCall m (unpackWord w).env)) ∧
  ((unpackWord w).op = 0x0A → decode w = .instr (.answerCall (unpackWord w).env)) ∧
  ((unpackWord w).op = 0x0B →
    decode w = .instr (.answerCallMode ((unpackWord w).arg.getLsbD 0) (unpackWord w).env)) ∧
  (∀ c : Cause, (unpackWord w).op = 0x0C → (unpackWord w).arg.toNat = c.number →
    decode w = .instr (.disconnectCall c (unpackWord w).env)) ∧
  ((unpackWord w).op = 0x0D → decode w = .instr (.ackCall (unpackWord w).env)) ∧
  ((unpackWord w).op = 0x0E → decode w = .instr (.setIdle (unpackWord w).env)) ∧
  ((unpackWord w).op = 0x0F → decode w = .instr (.setBlocked (unpackWord w).env)) ∧
  ((unpackWord w).op = 0x10 → decode w = .instr (.alarm ((unpackWord w).arg.getLsbD 0) (unpackWord w).env)) ∧
  ((unpackWord w).op = 0x11 → decode w = .instr (.stageClr (unpackWord w).env)) ∧
  ((unpackWord w).op = 0x12 → decode w = .instr (.stageAni (unpackWord w).arg (unpackWord w).env)) ∧
  ((unpackWord w).op = 0x13 → decode w = .instr (.stageDnis (unpackWord w).arg (unpackWord w).env))

/-- Nine words of spec/95_test_vectors.md, written out from format OPW (R91). -/
def Obligations.KnownWordsDecode : Prop :=
  decode 0x080C = .instr (.line { ierr := false, werr := false, lerr := false, line := 0xC }) ∧
  decode 0x1080 = .instr (.toneOn 1 { ierr := false, werr := false, lerr := false, line := 0 }) ∧
  decode 0x2D88 = .instr (.timerExpCasPersistenceCheck { ierr := false, werr := false, lerr := false, line := 8 }) ∧
  decode 0x4480 = .instr (.makeCall .collectCall true { ierr := false, werr := false, lerr := false, line := 0 }) ∧
  decode 0x4800 = .instr (.acceptCall .charge { ierr := false, werr := false, lerr := false, line := 0 }) ∧
  decode 0x6300 = .instr (.disconnectCall .normalClearing { ierr := false, werr := false, lerr := false, line := 0 }) ∧
  decode 0x4120 = .instr (.makeCall .nationalPrioritySubscriber false { ierr := false, werr := true, lerr := false, line := 0 }) ∧
  decode 0x0000 = .illegal .unlistedOp ∧ decode 0x1000 = .illegal .toneZero

/-- spec/30_encoding.md section 4 (R100) and section 5: the word of an output action determines the action, but for the
durations that travel beside it (R43, R48). -/
def Obligations.OutputWordsDetermineActions : Prop := ∀ a b : Action, a.word = b.word → wordPart a = wordPart b

/-- spec/40_line_events.md R136: the tests of each row, in order. -/
def Obligations.ReceivedCodesDecodeByState : Prop := ∀ (c : Cfg) (r : LineCode),
  (∀ st ∈ [CasState.init, .idle], decodeSignal c r st =
    firstMatch [(r == code c .idle, .idle), (r == code c .block, .block), (r == code c .seize, .seize)]) ∧
  decodeSignal c r .blocked = firstMatch [(r == code c .idle, .idle), (r == code c .block, .block)] ∧
  (∀ st ∈ [CasState.seizeRxd, .seizeAckTxd, .answerTxd, .executingDoubleAnswer, .clearBackTxd, .doubleSeizure],
    decodeSignal c r st = firstMatch [(r == code c .clearForward, .clearForward)]) ∧
  (∀ st ∈ [CasState.clearForwardRxd, .doubleSeizureClearFwdPending], decodeSignal c r st = none) ∧
  decodeSignal c r .seizeTxd = firstMatch
    [(r == code c .seizeAck, .seizeAck), (c.frIsSeizeAck && r == code c .forcedRelease, .seizeAck),
     (r == code c .seize, .seize)] ∧
  (∀ st ∈ [CasState.seizeAckRxd, .acceptRxd, .answerRxd],
    decodeSignal c r st = firstMatch ((r == code c .answer, .answer) :: classifyTests c r)) ∧
  (∀ st ∈ [CasState.answerRxdMfPending, .clearBackRxd, .forcedReleaseRxd, .clearBackToneRxd],
    decodeSignal c r st = firstMatch (classifyTests c r)) ∧
  decodeSignal c r .clearForwardTxd = firstMatch ((r == code c .idle, .idle) :: classifyTests c r)

/-! ### The step -/

/-- spec/00_scope.md R10, spec/30_encoding.md sections 1 and 2 (R95): the step is the reaction to the next operation word, with its
response words at hand; an illegal word changes nothing, reads no response, and answers BadOp. That unread response words are
dropped is the model's choice (log entry 5), and so is the step with no word waiting, which changes nothing (log entry 4). -/
def Obligations.StepRunsTheDecodedOperation : Prop :=
  (∀ (s : State) (d : Delivery) (rest : List Delivery), s.input = d :: rest →
    (∀ i, decode d.word = .instr i → step s = exec i { s with input := rest, resp := d.responses }) ∧
    (∀ why, decode d.word = .illegal why → step s = .next (ended [] .badOp { s with input := rest }))) ∧
  ∀ s : State, s.input = [] → step s = .next s

/-- spec/00_scope.md R10, spec/30_encoding.md section 4 (R100), spec/60_exceptions.md section 1 (R331): nothing stops the machine,
and the last action of every operation is a STATUS. That no response word is left over is the model's choice (log entry 5). -/
def Obligations.EveryOperationEndsInStatus : Prop :=
  (∀ (i : Instr) (s : State), ∃ t acts st, exec i s = .next t ∧ t.out = acts ++ [Action.status st] ∧ t.resp = []) ∧
    ∀ s : State, ∃ t, step s = .next t

/-- spec/70_reset_and_hazards.md R361, for every configuration the channel is bound to. -/
def Obligations.ResetValues : Prop := ∀ cfg : Cfg, (State.constructed cfg).casState = .init ∧
  (State.constructed cfg).mfState = .off ∧ (State.constructed cfg).mfGroup = .noGroup ∧
  (State.constructed cfg).callState = .idle ∧ (State.constructed cfg).direction = .stopped ∧
  (State.constructed cfg).rxValid = false ∧ (State.constructed cfg).rxRaw = 0 ∧ (State.constructed cfg).rxCode = 0 ∧
  (State.constructed cfg).rxSig = none ∧ (State.constructed cfg).txSig = none ∧ (State.constructed cfg).txRaw = 0 ∧
  (State.constructed cfg).txCode = 0 ∧ (State.constructed cfg).aniLen = 0 ∧ (State.constructed cfg).dnisLen = 0 ∧
  (State.constructed cfg).dnisIndex = 0 ∧ (State.constructed cfg).aniPtr = 0 ∧
  (State.constructed cfg).stageAniLen = 0 ∧ (State.constructed cfg).stageDnisLen = 0 ∧
  (State.constructed cfg).mfWriteTone = 0 ∧ (State.constructed cfg).mfReadTone = 0 ∧
  (State.constructed cfg).callerCategory = 0 ∧ (State.constructed cfg).aniRestricted = false ∧
  (State.constructed cfg).answered = false ∧ (State.constructed cfg).categorySent = false ∧
  (State.constructed cfg).alarm = false ∧ (State.constructed cfg).dnisDone = false ∧
  (State.constructed cfg).aniDone = false ∧ (State.constructed cfg).acceptMode = .charge ∧
  (State.constructed cfg).mfLive = false ∧ (State.constructed cfg).dtmfRxLive = false ∧
  (State.constructed cfg).dtmfTxLive = false ∧ (State.constructed cfg).armed = 0 ∧
  (State.constructed cfg).pendingValid = false ∧ (State.constructed cfg).pendingCode = 0 ∧
  (State.constructed cfg).cfg = cfg ∧ (State.constructed cfg).out = []

/-! ### Invariants -/

/-- The invariants of spec/10_state.md section 7 hold after construction, for every configuration, and so at
`State.reset`. -/
def Obligations.InvariantsHoldAtReset : Prop := ∀ cfg : Cfg,
  lengthsBounded (State.constructed cfg) = true ∧ pendingMatches (State.constructed cfg) = true ∧
  vectorCoupled (State.constructed cfg) = true ∧ noStrayTimer (State.constructed cfg) = true ∧
  silentWhenReleased (State.constructed cfg) = true ∧ quietDuringAlarm (State.constructed cfg) = true ∧
  vectorListed (State.constructed cfg) = true ∧ answerDelayFits (State.constructed cfg) = true

/-- spec/10_state.md R40: "No operation writes it." -/
def Obligations.ConfigurationIsNeverWritten : Prop :=
  (∀ (i : Instr) (s t : State), exec i s = .next t → t.cfg = s.cfg) ∧
    ∀ s t : State, step s = .next t → t.cfg = s.cfg

/-- spec/10_state.md R51: it holds after construction and every step keeps it. -/
def Obligations.DigitLengthsStayBounded : Prop :=
  (∀ cfg : Cfg, (State.constructed cfg).aniLen ≤ cfg.maxAni.toNat ∧ (State.constructed cfg).dnisLen ≤ cfg.maxDnis.toNat) ∧
  ∀ s t : State, s.aniLen ≤ s.cfg.maxAni.toNat ∧ s.dnisLen ≤ s.cfg.maxDnis.toNat → step s = .next t →
    t.aniLen ≤ t.cfg.maxAni.toNat ∧ t.dnisLen ≤ t.cfg.maxDnis.toNat

/-- spec/10_state.md R34: the pending code is a masked code, and one is pending exactly while its timer runs. It holds after
construction and every step keeps it. -/
def Obligations.PendingCodeHasItsTimer : Prop :=
  (∀ cfg : Cfg, (State.constructed cfg).pendingValid = false ∧
    isArmed .casPersistenceCheck (State.constructed cfg) = false ∧
    (State.constructed cfg).pendingCode = maskCode cfg (State.constructed cfg).pendingCode) ∧
  ∀ s t : State,
    (s.pendingValid = true ↔ isArmed .casPersistenceCheck s = true) ∧
      s.pendingCode = maskCode s.cfg s.pendingCode → step s = .next t →
    (t.pendingValid = true ↔ isArmed .casPersistenceCheck t = true) ∧ t.pendingCode = maskCode t.cfg t.pendingCode

/-- spec/10_state.md R20, R50, R54 (a); spec/44_lifecycle_overlay.md sections 1 and 2: every step keeps the coupling of the
state vector, and with it the correlation of `call_state` and `cas_state`; and it keeps it in a row of the table of R313 or in one
of the rows that the rules reach beside that table (log entry 18). -/
def Obligations.StateVectorStaysCoupled : Prop := ∀ s t : State, vectorCoupled s = true → step s = .next t →
  vectorCoupled t = true ∧
  (vectorListed s = true → answerDelayFits s = true → silentWhenReleased s = true →
    vectorListed t = true ∧ answerDelayFits t = true) ∧
  (t.callState = .answered → t.casState ∈ [CasState.answerTxd, .answerRxd, .executingDoubleAnswer]) ∧
  (t.callState = .idle → t.casState ∈ [CasState.idle, .blocked, .init]) ∧
  (t.direction = .stopped ↔ t.callState = .idle)

/-- spec/10_state.md R54 (c): with no call only the debounce timer runs. -/
def Obligations.NoTimerRunsWithoutACall : Prop := ∀ s t : State,
  vectorCoupled s = true ∧ noStrayTimer s = true → step s = .next t →
    noStrayTimer t = true ∧
    (t.casState ∈ [CasState.idle, .blocked, .init] → ∀ tm : Timer, isArmed tm t = true → tm = .casPersistenceCheck)

/-- spec/10_state.md R54 (b): a released MF engine is silent. -/
def Obligations.ReleasedEngineIsSilent : Prop := ∀ s t : State,
  vectorCoupled s = true ∧ silentWhenReleased s = true → step s = .next t →
    silentWhenReleased t = true ∧ (t.mfLive = false → t.mfWriteTone = 0)

/-- spec/10_state.md R54 (d), where no response nests ALARM 1. That it is not claimed there too is log entry 11. -/
def Obligations.AlarmSilencesTimers : Prop := ∀ s t : State,
  quietDuringAlarm s = true → (∀ d ∈ s.input.head?, ∀ r ∈ d.responses, nestsAlarm r = false) → step s = .next t →
    quietDuringAlarm t = true

/-- spec/43_call_control.md R296 inside an event (spec/44_lifecycle_overlay.md R316, R317: "a callback that only stages digits, or
that changes a flag, is not detected") of spec/41_tone_events.md R196, R203 and of the error path of R297: the rule that raised
the event goes on. An application that answers a received digit with ALARM 1 freezes the exchange, and the next request is made
in alarm; one that answers the error of a clearing alarm with ALARM 1 is in alarm when the sample is taken, as the LINE word of
AlarmEffect takes it. So a request can run its timer in alarm, which spec/10_state.md R54 (d) denies (log entry 11: the rules are
followed). -/
def Obligations.AlarmRaisedInACallback : Prop :=
  ∀ (t : Tone) (d : Digit) (env env' : Env) (resp : RespBits) (rs : List RespBits) (s : State),
  let heard := heardBackward t s
  let opened := { heard with mfGroup := if s.mfGroup = MfGroup.backInit then .ga else s.mfGroup }
  let frozen := cancelsOf allTimers heard ++ (if s.mfWriteTone = 0 then [] else [Action.tone 0]) ++ [Action.status .ok]
  let dropped := droppedCall env s
  s.resp = resp :: rs → (∀ r ∈ rs, respHasOp r = false) → respHasOp resp = true →
  decode (respOpWord resp) = .instr (.alarm true env') →
  (ToneStarts t s → s.direction = .backward → toneDigit t = some d →
    ((s.mfGroup = .backInit ∧ s.mfState = .seizeAckTxd) ∨ (s.mfGroup ∈ [MfGroup.ga, .gc] ∧ s.mfState = .dnisRqTxd) →
      s.dnisLen < s.cfg.maxDnis.toNat → exec (.toneOn t env) s =
        .next (asked false env (backwardActions s ++ [Action.evt (.dnisDigitReceived d)] ++ frozen)
          { opened with
            dnis := s.dnis ++ [d]
            dnisDone := s.dnisDone || respStop resp || decide (s.dnisLen + 1 = s.cfg.maxDnis.toNat)
            alarm := true, armed := 0, pendingValid := false, mfWriteTone := 0 })) ∧
    (s.mfGroup ∈ [MfGroup.ga, .gc] → s.mfState = .aniRqTxd →
      t ∉ [s.cfg.g1.callerAniIsRestricted, s.cfg.g1.noMoreAniAvailable] → s.aniLen < s.cfg.maxAni.toNat →
      exec (.toneOn t env) s =
        .next (asked false env (backwardActions s ++ [Action.evt (.aniDigitReceived d)] ++ frozen)
          { heard with
            ani := s.ani ++ [d]
            aniDone := s.aniDone || (s.cfg.forceUseMaxAni && decide (s.aniLen + 1 = s.cfg.maxAni.toNat))
            alarm := true, armed := 0, pendingValid := false, mfWriteTone := 0 }))) ∧
  (s.alarm = true → s.callState ≠ .idle → env.lerr = false → env.werr = false →
    ∃ u, exec (.line env) { dropped with resp := rs } = .next u ∧
      exec (.alarm false env) s =
        .next { u with alarm := true, out := errorActions .alarmRaised env [] s ++ [Action.status .ok] ++ u.out })

/-- spec/30_encoding.md section 4 (R106), spec/43_call_control.md section 1 (R274), spec/60_exceptions.md section 4 (R340): an
operation that answers Fail, Ignored or BadOp has done nothing else. -/
def Obligations.RefusedOperationsChangeNothing : Prop := ∀ (i : Instr) (s t : State) (st : Status),
  exec i s = .next t → t.out.getLast? = some (.status st) → st ∈ [Status.fail, .ignored, .badOp] → t = ended [] st s

/-- spec/60_exceptions.md section 5 (R342): one operation raises at most one protocol error, when the application does not
re-enter. ALARM 0 is left out: it calls ErrorPath and goes on (spec/43_call_control.md R297), so its re-sync may raise a
second. -/
def Obligations.AtMostOneProtocolError : Prop := ∀ (i : Instr) (s t : State),
  NoReentry s → (∀ env, i ≠ .alarm false env) → exec i s = .next t →
    ((eventsOf t.out).filter fun e => match e with
      | .protocolError _ => true
      | _ => false).length ≤ 1

/-- spec/60_exceptions.md section 3 (R339: the alarm flag is set and cleared only by ALARM), spec/20_memory.md section 1 (R74: the
staging buffers are written only by the STAGE operations, and MAKE_CALL empties them), when the application does not
re-enter. -/
def Obligations.AlarmAndStagingHaveOwners : Prop := ∀ (i : Instr) (s t : State), NoReentry s → exec i s = .next t →
  ((∀ raised env, i ≠ .alarm raised env) → t.alarm = s.alarm) ∧
  ((∀ c r env, i ≠ .makeCall c r env) → (∀ env, i ≠ .stageClr env) → (∀ d env, i ≠ .stageAni d env) →
    t.stageAni = s.stageAni) ∧
  ((∀ c r env, i ≠ .makeCall c r env) → (∀ env, i ≠ .stageClr env) → (∀ d env, i ≠ .stageDnis d env) →
    t.stageDnis = s.stageDnis)

/-- spec/60_exceptions.md section 3 (R339), spec/43_call_control.md section 1 (R274): in alarm the sixteen event operations are
dropped and the six guarded call-control operations fail. spec/41_tone_events.md sections 1 and 4 (R191, R192, R230),
spec/42_timer_events.md section 1 (R244): an event whose engine or timer is not live is dropped; a tone report that changes
nothing is accepted. -/
def Obligations.EventsAreGated : Prop := ∀ (env : Env) (s : State),
  (s.alarm = true → ∀ i : Instr, i.wf = true →
    (isCallControl i = false → exec i s = .next (ended [] .ignored s)) ∧
    (alarmFails i = true → exec i s = .next (ended [] .fail s))) ∧
  (s.alarm = false →
    (∀ (i : Instr) (tm : Timer), expiredTimer i = some tm → isArmed tm s = false →
      exec i s = .next (ended [] .ignored s)) ∧
    (s.mfLive = false → (∀ t : Tone, t ≠ 0 → exec (.toneOn t env) s = .next (ended [] .ignored s)) ∧
      exec (.toneOff env) s = .next (ended [] .ignored s)) ∧
    (s.dtmfRxLive = false → ∀ d : Digit, exec (.dtmfDigit d env) s = .next (ended [] .ignored s)) ∧
    (s.mfLive = true → (∀ t : Tone, t ≠ 0 → s.mfReadTone = t → exec (.toneOn t env) s = .next (ended [] .ok s)) ∧
      (s.mfReadTone = 0 → exec (.toneOff env) s = .next (ended [] .ok s))))

/-! ### LINE -/

/-- spec/40_line_events.md section 1 (R130, R131): a sample that shows the committed code drops a pending change; with a
persistence check configured a changed code only waits, and a third code restarts the wait. "A line code that reverts to its
previous value before the persistence-check timer fires produces no transition and no event." -/
def Obligations.LineIsDebounced : Prop :=
  (∀ (env : Env) (r : LineCode) (s : State),
    s.alarm = false → env.lerr = false → r = maskCode s.cfg env.line →
    (s.rxValid = true ∧ r = s.rxCode → s.pendingValid = false → exec (.line env) s = .next (ended [] .ok s)) ∧
    (s.rxValid = true ∧ r = s.rxCode → s.pendingValid = true → exec (.line env) s =
      .next (ended (cancelsOf [.casPersistenceCheck] s) .ok
        { s with pendingValid := false, armed := withoutTimers [.casPersistenceCheck] s.armed })) ∧
    (¬ (s.rxValid = true ∧ r = s.rxCode) → duration s.cfg .casPersistenceCheck ≠ 0 →
      s.pendingValid = true ∧ s.pendingCode = r → exec (.line env) s = .next (ended [] .ok s)) ∧
    (¬ (s.rxValid = true ∧ r = s.rxCode) → duration s.cfg .casPersistenceCheck ≠ 0 →
      ¬ (s.pendingValid = true ∧ s.pendingCode = r) → exec (.line env) s =
        .next (ended (armActions .casPersistenceCheck s) .ok
          { s with pendingValid := true, pendingCode := r, armed := s.armed ||| timerBit .casPersistenceCheck }))) ∧
  (∀ (env env' : Env) (s : State),
    s.alarm = false → env.lerr = false → env'.lerr = false → duration s.cfg .casPersistenceCheck ≠ 0 →
    s.rxValid = true → s.pendingValid = false → isArmed .casPersistenceCheck s = false →
    maskCode s.cfg env.line ≠ s.rxCode → maskCode s.cfg env'.line = s.rxCode →
    ∃ t u, exec (.line env) s = .next t ∧ exec (.line env') t = .next u ∧ eventsOf t.out = [] ∧ eventsOf u.out = [] ∧
      t = { s with
            pendingValid := true, pendingCode := maskCode s.cfg env.line
            armed := s.armed ||| timerBit .casPersistenceCheck, out := t.out, resp := [] } ∧
      u = { s with pendingCode := maskCode s.cfg env.line, out := u.out, resp := [] })

/-- spec/40_line_events.md section 3 (R138, R139, R140, R144) after section 1 (R133): with no call, Idle and Block from the peer
are reported, and Seize in Idle or Init starts an incoming call and raises call-init, unless the engines cannot be initialised (R184, R186). -/
def Obligations.LineWithoutACall : Prop := ∀ (env : Env) (r : LineCode) (s : State),
  let seen := committed env.line (some .seize) s
  let acked := transmitted .seizeAck seen
  LineCommits env r s → NoReentry s →
  (s.casState ∈ [CasState.init, .idle, .blocked] → r = code s.cfg .idle → exec (.line env) s =
    .next (ended (commitActions env.line (some .idle) s ++ [Action.evt .lineIdle]) .ok (committed env.line (some .idle) s))) ∧
  (s.casState ∈ [CasState.init, .idle, .blocked] → r ≠ code s.cfg .idle → r = code s.cfg .block → exec (.line env) s =
    .next (ended (commitActions env.line (some .block) s ++ [Action.evt .lineBlocked]) .ok
      (committed env.line (some .block) s))) ∧
  (s.casState ∈ [CasState.init, .idle] → r ≠ code s.cfg .idle → r ≠ code s.cfg .block → r = code s.cfg .seize →
    (env.ierr = true → exec (.line env) s =
      .next (errorEnded .internalError env (commitActions env.line (some .seize) s) seen)) ∧
    (env.ierr = false → s.cfg.autoSeizeAck = true → env.werr = false → exec (.line env) s =
      .next (ended
        (commitActions env.line (some .seize) s ++ (if s.cfg.detectDtmf then [Action.dtmfRxInit] else []) ++
          [Action.mfInit false, .mfInit true] ++ lineActions s.cfg .seizeAck ++ [Action.evt .callInit])
        .ok
        { acked with
          dtmfRxLive := if s.cfg.detectDtmf then true else s.dtmfRxLive
          mfLive := true, mfWriteTone := 0, mfReadTone := 0, direction := .backward, callState := .collecting
          mfGroup := .backInit, mfState := .seizeAckTxd, casState := .seizeAckTxd })) ∧
    (env.ierr = false → s.cfg.autoSeizeAck = false → exec (.line env) s =
      .next (ended
        (commitActions env.line (some .seize) s ++ (if s.cfg.detectDtmf then [Action.dtmfRxInit] else []) ++
          [Action.mfInit false, .mfInit true, .evt .callInit])
        .ok
        { seen with
          dtmfRxLive := if s.cfg.detectDtmf then true else s.dtmfRxLive
          mfLive := true, mfWriteTone := 0, mfReadTone := 0, direction := .backward, callState := .collecting
          mfGroup := .backInit, mfState := .off, casState := .seizeRxd })))

/-- spec/40_line_events.md section 1 (R133) with spec/60_exceptions.md section 1 (R331) and
spec/70_reset_and_hazards.md section 1 (R362): a code the state does not admit takes the error path. In an invalid `cas_state`
R133 raises InvalidR2State without decoding; that LOG_RX and `rx_sig` then show no signal is the model's choice (log entry 8). -/
def Obligations.UnadmittedCodeIsAProtocolError : Prop := ∀ (env : Env) (r : LineCode) (s : State),
  LineCommits env r s → NoReentry s → decodeSignal s.cfg r s.casState = none →
  (casInvalid s.casState = false → exec (.line env) s =
    .next (errorEnded .invalidCasBits env (commitActions env.line none s) (committed env.line none s))) ∧
  (casInvalid s.casState = true → exec (.line env) s =
    .next (errorEnded .invalidR2State env (commitActions env.line none s) (committed env.line none s)))

/-- spec/40_line_events.md section 3 (R143) with spec/41_tone_events.md section 3 (R210, R214, R220): at Seize-Ack the MF exchange
opens with the first DNIS digit, or DTMF dialling is armed. -/
def Obligations.SeizeAckOpensTheExchange : Prop := ∀ (env : Env) (r : LineCode) (s : State),
  let seen := committed env.line (some .seizeAck) s
  LineCommits env r s → NoReentry s → s.casState = .seizeTxd →
  (r = code s.cfg .seizeAck ∨ (s.cfg.frIsSeizeAck = true ∧ r = code s.cfg .forcedRelease)) →
  (s.cfg.dialWithDtmf = true → exec (.line env) s =
    .next (ended
      (commitActions env.line (some .seizeAck) s ++ cancelsOf [.seize] s ++ armActions .dtmfStartDial s ++
        armActions .answer s ++ [Action.evt .callProceed])
      .ok
      { seen with
        casState := .seizeAckRxd, mfGroup := .dtmfFwdInit, mfState := .off
        armed := (withoutTimers [.casPersistenceCheck, .seize] s.armed ||| timerBit .dtmfStartDial) |||
          timerBit .answer })) ∧
  (s.cfg.dialWithDtmf = false → env.ierr = false → env.werr = false →
    (∀ (d : Digit) (ds : List Digit), s.dnis = d :: ds → d.toNat ≤ 9 → exec (.line env) s =
      .next (ended
        (commitActions env.line (some .seizeAck) s ++ cancelsOf [.seize] s ++
          [Action.mfInit false, .mfInit true, .flush, .tone (digitTone d), .evt .callProceed])
        .ok
        { seen with
          casState := .seizeAckRxd, mfGroup := .gi, mfState := .dnisTxd, dnisIndex := 0
          mfLive := true, mfReadTone := 0, mfWriteTone := digitTone d
          armed := withoutTimers [.casPersistenceCheck, .seize] s.armed })) ∧
    (s.dnis = [] → s.cfg.g1.noMoreDnisAvailable ≠ 0 → exec (.line env) s =
      .next (ended
        (commitActions env.line (some .seizeAck) s ++ cancelsOf [.seize] s ++
          [Action.mfInit false, .mfInit true, .flush, .tone s.cfg.g1.noMoreDnisAvailable, .evt .callProceed])
        .ok
        { seen with
          casState := .seizeAckRxd, mfGroup := .gi, mfState := .dnisEndTxd, dnisIndex := 0
          mfLive := true, mfReadTone := 0, mfWriteTone := s.cfg.g1.noMoreDnisAvailable
          armed := withoutTimers [.casPersistenceCheck, .seize] s.armed })) ∧
    (s.dnis = [] → s.cfg.g1.noMoreDnisAvailable = 0 → exec (.line env) s =
      .next (ended
        (commitActions env.line (some .seizeAck) s ++ cancelsOf [.seize] s ++ [Action.mfInit false, .mfInit true] ++
          armActions .mfFwdSafety s ++ [Action.evt .callProceed])
        .ok
        { seen with
          casState := .seizeAckRxd, mfGroup := .gi, mfState := .waitingTimeout, dnisIndex := 0
          mfLive := true, mfReadTone := 0, mfWriteTone := 0
          armed := withoutTimers [.casPersistenceCheck, .seize] s.armed ||| timerBit .mfFwdSafety }))) ∧
  (s.cfg.dialWithDtmf = false → env.ierr = true → exec (.line env) s =
    .next (errorEnded .internalError env (commitActions env.line (some .seizeAck) s ++ cancelsOf [.seize] s)
      { seen with
        casState := .seizeAckRxd, armed := withoutTimers [.casPersistenceCheck, .seize] s.armed }))

/-- spec/40_line_events.md section 3 (R142, R154): the peer's Seize while the own Seize waits is glare; the peer's Clear-Forward
in glare is only remembered. -/
def Obligations.GlareIsReportedOnce : Prop := ∀ (env : Env) (r : LineCode) (s : State),
  let seen := committed env.line (some .seize) s
  let remembered := committed env.line (some .clearForward) s
  LineCommits env r s → NoReentry s →
  (s.casState = .seizeTxd → r ≠ code s.cfg .seizeAck →
    ¬ (s.cfg.frIsSeizeAck = true ∧ r = code s.cfg .forcedRelease) → r = code s.cfg .seize → exec (.line env) s =
      .next (ended
        (commitActions env.line (some .seize) s ++ cancelsOf [.seize] s ++ armActions .seizePersist s ++
          [Action.evt (.callDisconnect .glare)])
        .ok
        { seen with
          casState := .doubleSeizure, callState := .disconnected
          armed := withoutTimers [.casPersistenceCheck, .seize] s.armed ||| timerBit .seizePersist })) ∧
  (s.casState = .doubleSeizure → r = code s.cfg .clearForward → exec (.line env) s =
    .next (ended (commitActions env.line (some .clearForward) s) .ok
      { remembered with casState := .doubleSeizureClearFwdPending }))

/-- spec/40_line_events.md sections 2 and 3 (R141, R152, R150, R151, R159): Clear-Forward on the backward side, and the end of
the clearing handshake on both sides. -/
def Obligations.ClearForwardAndCallEnd : Prop := ∀ (env : Env) (r : LineCode) (s : State),
  let freedSeen := released (committed env.line (some .clearForward) s)
  LineCommits env r s → NoReentry s →
  (s.casState ∈ [CasState.seizeRxd, .seizeAckTxd, .answerTxd, .executingDoubleAnswer] → r = code s.cfg .clearForward →
    exec (.line env) s =
      .next (ended
        (commitActions env.line (some .clearForward) s ++ cancelsOf callTimers s ++ releaseActions s ++
          [Action.evt (.callDisconnect .normalClearing)])
        .ok
        { freedSeen with
          casState := .clearForwardRxd, callState := .disconnected, armed := 0 })) ∧
  (s.casState = .clearBackTxd → r = code s.cfg .clearForward → env.werr = false → exec (.line env) s =
    .next (ended
      (commitActions env.line (some .clearForward) s ++ lineActions s.cfg .idle ++
        baselineActions (committed env.line (some .clearForward) s) ++ [Action.evt .callEnd])
      .ok (baselineOf (transmitted .idle (committed env.line (some .clearForward) s))))) ∧
  (s.casState = .clearForwardTxd → r = code s.cfg .idle → env.werr = false → exec (.line env) s =
    .next (ended
      (commitActions env.line (some .idle) s ++ lineActions s.cfg .idle ++
        baselineActions (committed env.line (some .idle) s) ++ [Action.evt .callEnd])
      .ok (baselineOf (transmitted .idle (committed env.line (some .idle) s)))))

/-- spec/40_line_events.md sections 2 and 3 (R137 from R147, R148, R153; R156, R151): the peer's disconnect code, with the cause
`Classify` gives it. -/
def Obligations.PeerDisconnectIsReported : Prop := ∀ (env : Env) (r : LineCode) (s : State) (sig : Signal) (cause : Cause),
  let freedSeen := released (committed env.line (some sig) s)
  LineCommits env r s → NoReentry s → classify s.cfg r = some (sig, cause) →
  ((s.casState = .answerRxdMfPending ∨ (s.casState ∈ [CasState.seizeAckRxd, .acceptRxd] ∧ r ≠ code s.cfg .answer)) →
    exec (.line env) s =
      .next (ended
        (commitActions env.line (some sig) s ++ cancelsOf [.answer, .meteringPulse, .mfFwdSafety, .dtmfStartDial] s ++
          releaseActions s ++ [Action.evt (.callDisconnect cause)])
        .ok
        { freedSeen with
          casState := if sig = .clearBack then .clearBackRxd else .forcedReleaseRxd
          callState := .disconnected
          armed := withoutTimers [.casPersistenceCheck, .answer, .meteringPulse, .mfFwdSafety, .dtmfStartDial] s.armed })) ∧
  ((s.casState ∈ [CasState.clearBackRxd, .forcedReleaseRxd, .clearBackToneRxd] ∨
      (s.casState = .clearForwardTxd ∧ r ≠ code s.cfg .idle)) →
    exec (.line env) s =
      .next (ended (commitActions env.line (some sig) s) .ok (committed env.line (some sig) s)))

/-- spec/40_line_events.md sections 2 and 3 (R147, R148, R149): the peer's Answer. -/
def Obligations.PeerAnswerIsReported : Prop := ∀ (env : Env) (r : LineCode) (s : State),
  let seen := committed env.line (some .answer) s
  LineCommits env r s → NoReentry s → r = code s.cfg .answer →
  (s.casState = .acceptRxd → exec (.line env) s =
    .next (ended (commitActions env.line (some .answer) s ++ cancelsOf [.answer] s ++ [Action.evt .callAnswered]) .ok
      { seen with
        casState := .answerRxd, callState := .answered, answered := true
        armed := withoutTimers [.casPersistenceCheck, .answer] s.armed })) ∧
  (s.casState = .seizeAckRxd → s.mfGroup = .dtmfFwdInit → exec (.line env) s =
    .next (ended
      (commitActions env.line (some .answer) s ++ cancelsOf [.answer] s ++
        [Action.evt (.callAccepted .unknown), .evt .callAnswered])
      .ok
      { seen with
        casState := .answerRxd, callState := .answered, answered := true
        armed := withoutTimers [.casPersistenceCheck, .answer] s.armed })) ∧
  (s.casState = .seizeAckRxd → s.mfGroup ≠ .dtmfFwdInit → exec (.line env) s =
    .next (ended (commitActions env.line (some .answer) s) .ok
      { seen with casState := .answerRxdMfPending }))

/-- spec/40_line_events.md section 3 (R146): the metering arbiter. -/
def Obligations.MeteringPulseIsArbitrated : Prop := ∀ (env : Env) (r : LineCode) (s : State),
  let returned := committed env.line (some .answer) s
  LineCommits env r s → NoReentry s → s.casState = .answerRxd →
  (∀ (sig : Signal) (cause : Cause), r ≠ code s.cfg .answer → classify s.cfg r = some (sig, cause) →
    let seen := committed env.line (some sig) s
    let freedSeen := released seen
    (duration s.cfg .meteringPulse ≠ 0 ∧ s.answered = true → isArmed .meteringPulse s = false → exec (.line env) s =
      .next (ended (commitActions env.line (some sig) s ++ [Action.tmrArm .meteringPulse (duration s.cfg .meteringPulse)]) .ok
        { seen with
          armed := withoutTimers [.casPersistenceCheck] s.armed ||| timerBit .meteringPulse })) ∧
    (duration s.cfg .meteringPulse ≠ 0 ∧ s.answered = true → isArmed .meteringPulse s = true → exec (.line env) s =
      .next (ended (commitActions env.line (some sig) s) .ok (committed env.line (some sig) s))) ∧
    (¬ (duration s.cfg .meteringPulse ≠ 0 ∧ s.answered = true) → exec (.line env) s =
      .next (ended
        (commitActions env.line (some sig) s ++ cancelsOf [.answer, .meteringPulse, .mfFwdSafety, .dtmfStartDial] s ++
          releaseActions s ++ [Action.evt (.callDisconnect cause)])
        .ok
        { freedSeen with
          casState := if sig = .clearBack then .clearBackRxd else .forcedReleaseRxd
          callState := .disconnected
          armed :=
            withoutTimers [.casPersistenceCheck, .answer, .meteringPulse, .mfFwdSafety, .dtmfStartDial] s.armed }))) ∧
  (r = code s.cfg .answer → isArmed .meteringPulse s = true → exec (.line env) s =
    .next (ended
      (commitActions env.line (some .answer) s ++ [Action.tmrCancel .meteringPulse, .evt .billingPulseReceived]) .ok
      { returned with
        armed := withoutTimers [.casPersistenceCheck, .meteringPulse] s.armed })) ∧
  (r = code s.cfg .answer → isArmed .meteringPulse s = false → exec (.line env) s =
    .next (ended (commitActions env.line (some .answer) s) .ok (committed env.line (some .answer) s)))

/-! ### TONE_ON -/

/-- spec/41_tone_events.md R190. -/
def Obligations.TwoTonesWithoutOffIsBroken : Prop := ∀ (t : Tone) (env : Env) (s : State),
  s.alarm = false → s.mfLive = true → t ≠ 0 → s.mfReadTone ≠ 0 → s.mfReadTone ≠ t → NoReentry s →
    exec (.toneOn t env) s = .next (errorEnded .brokenMfSequence env [] s)

/-- spec/41_tone_events.md section 2 (R195, R196, R187, R188): the backward side stores a DNIS digit and reports it, closes the
DNIS at the maximum, on a stop response or at the terminator tone, and asks for what comes next (a request tone whose buffer
cannot be flushed is reported, R183); any other tone is a protocol error. -/
def Obligations.BackwardSideCollectsDnis : Prop := ∀ (t : Tone) (env : Env) (s : State),
  let heard := heardBackward t s
  let opened := { heard with mfGroup := if s.mfGroup = .backInit then .ga else s.mfGroup }
  ToneStarts t s → NoReentry s → s.direction = .backward →
  ((s.mfGroup = .backInit ∧ s.mfState = .seizeAckTxd) ∨
    (s.mfGroup ∈ [MfGroup.ga, .gc] ∧ s.mfState = .dnisRqTxd)) →
  (∀ d : Digit, toneDigit t = some d →
    (s.dnisLen < s.cfg.maxDnis.toNat → exec (.toneOn t env) s =
      .next (asked false env (backwardActions s ++ [Action.evt (.dnisDigitReceived d)])
        { opened with
          dnis := s.dnis ++ [d]
          dnisDone := s.dnisDone || respStop (s.resp.headD 0) || decide (s.dnisLen + 1 = s.cfg.maxDnis.toNat) })) ∧
    (s.cfg.maxDnis.toNat ≤ s.dnisLen → exec (.toneOn t env) s =
      .next (asked false env (backwardActions s) { opened with dnisDone := true }))) ∧
  (toneDigit t = none → t = s.cfg.g1.noMoreDnisAvailable → exec (.toneOn t env) s =
    .next (asked false env (backwardActions s) { opened with dnisDone := true })) ∧
  (toneDigit t = none → t ≠ s.cfg.g1.noMoreDnisAvailable → exec (.toneOn t env) s =
    .next (errorEnded .invalidMfTone env (backwardActions s) opened))

/-- spec/41_tone_events.md section 2 (R200, R203, R205, R188): the backward side receives the category, an ANI digit or the end
of the ANI, and the Group II category that ends the collection; a request tone whose buffer cannot be flushed is reported
(R183). -/
def Obligations.BackwardSideCollectsCategoryAndAni : Prop := ∀ (t : Tone) (env : Env) (s : State),
  let heard := heardBackward t s
  ToneStarts t s → NoReentry s → s.direction = .backward → s.mfGroup ∈ [MfGroup.ga, .gc] →
  (s.mfState = .categoryRqTxd → t ∈ group2Tones s.cfg → exec (.toneOn t env) s =
    .next (asked false env (backwardActions s) { heard with callerCategory := t })) ∧
  (s.mfState = .aniRqTxd →
    (t = s.cfg.g1.callerAniIsRestricted → exec (.toneOn t env) s =
      .next (asked false env (backwardActions s) { heard with aniRestricted := true, aniDone := true })) ∧
    (t ≠ s.cfg.g1.callerAniIsRestricted → t = s.cfg.g1.noMoreAniAvailable → exec (.toneOn t env) s =
      .next (asked false env (backwardActions s) { heard with aniDone := true })) ∧
    (∀ d : Digit, t ∉ [s.cfg.g1.callerAniIsRestricted, s.cfg.g1.noMoreAniAvailable] → toneDigit t = some d →
      (s.aniLen < s.cfg.maxAni.toNat → exec (.toneOn t env) s =
        .next (asked false env (backwardActions s ++ [Action.evt (.aniDigitReceived d)])
          { heard with
            ani := s.ani ++ [d]
            aniDone := s.aniDone || (s.cfg.forceUseMaxAni && decide (s.aniLen + 1 = s.cfg.maxAni.toNat)) })) ∧
      (s.cfg.maxAni.toNat ≤ s.aniLen → exec (.toneOn t env) s =
        .next (asked false env (backwardActions s) { heard with aniDone := s.aniDone || s.cfg.forceUseMaxAni }))) ∧
    (t ∉ [s.cfg.g1.callerAniIsRestricted, s.cfg.g1.noMoreAniAvailable] → toneDigit t = none →
      exec (.toneOn t env) s = .next (errorEnded .invalidMfTone env (backwardActions s) (heardBackward t s)))) ∧
  (s.mfState = .chgGiiTxd → t ∈ group2Tones s.cfg → exec (.toneOn t env) s =
    .next (ended (backwardActions s ++ [Action.evt (.callOffered t)]) .ok
      { heard with callerCategory := t, mfGroup := .gb, callState := .offered })) ∧
  (s.mfState ∈ [MfState.categoryRqTxd, .chgGiiTxd] → t ∉ group2Tones s.cfg →
    exec (.toneOn t env) s = .next (errorEnded .invalidMfTone env (backwardActions s) (heardBackward t s)))

/-- spec/41_tone_events.md section 3 (R211, R212 rows 1 to 5, R213, R214): a Group A request for a DNIS digit is latched, with
the cursor moved as it asks; an offset below the first digit is LibraryBug. -/
def Obligations.ForwardSideLatchesDnisRequests : Prop := ∀ (t : Tone) (env : Env) (s : State),
  ToneStarts t s → NoReentry s → s.direction = .forward → s.mfGroup = .gi → s.mfState ≠ .off →
  (∀ i : Nat,
    (t = s.cfg.ga.requestNextDnisDigit ∧ i = s.dnisIndex.toNat + 1) ∨
    (t ≠ s.cfg.ga.requestNextDnisDigit ∧ t = s.cfg.ga.requestDnisMinus1 ∧ s.dnisIndex.toNat = i + 1) ∨
    (t ∉ [s.cfg.ga.requestNextDnisDigit, s.cfg.ga.requestDnisMinus1] ∧ t = s.cfg.ga.requestDnisMinus2 ∧
      s.dnisIndex.toNat = i + 2) ∨
    (t ∉ [s.cfg.ga.requestNextDnisDigit, s.cfg.ga.requestDnisMinus1, s.cfg.ga.requestDnisMinus2] ∧
      t = s.cfg.ga.requestDnisMinus3 ∧ s.dnisIndex.toNat = i + 3) ∨
    (t ∉ [s.cfg.ga.requestNextDnisDigit, s.cfg.ga.requestDnisMinus1, s.cfg.ga.requestDnisMinus2,
        s.cfg.ga.requestDnisMinus3] ∧ t = s.cfg.ga.requestAllDnisAgain ∧ i = 0) →
    exec (.toneOn t env) s = .next (dnisLatched i (forwardActions s) (heardForward t s))) ∧
  ((t ≠ s.cfg.ga.requestNextDnisDigit ∧ t = s.cfg.ga.requestDnisMinus1 ∧ s.dnisIndex.toNat < 1) ∨
    (t ∉ [s.cfg.ga.requestNextDnisDigit, s.cfg.ga.requestDnisMinus1] ∧ t = s.cfg.ga.requestDnisMinus2 ∧
      s.dnisIndex.toNat < 2) ∨
    (t ∉ [s.cfg.ga.requestNextDnisDigit, s.cfg.ga.requestDnisMinus1, s.cfg.ga.requestDnisMinus2] ∧
      t = s.cfg.ga.requestDnisMinus3 ∧ s.dnisIndex.toNat < 3) →
    exec (.toneOn t env) s = .next (errorEnded .libraryBug env (forwardActions s) (heardForward t s)))

/-- spec/41_tone_events.md section 3 (R212 rows 6 to 13, R215, R218, R224, R225): the other Group A tones: the category and ANI
requests are latched, the change to Group II made, an immediate accept or a congestion taken; any other tone is a protocol
error. One tone may mean both "category" and "next ANI digit": `category_sent` tells them apart. The congestion cancels the
answer timer, as spec/42_timer_events.md R245 says of R225; that it does so first is the model's choice (log entry 16). -/
def Obligations.ForwardSideLatchesOtherRequests : Prop := ∀ (t : Tone) (env : Env) (s : State),
  let heard := heardForward t s
  ToneStarts t s → NoReentry s → s.direction = .forward → s.mfGroup = .gi → s.mfState ≠ .off →
  t ∉ [s.cfg.ga.requestNextDnisDigit, s.cfg.ga.requestDnisMinus1, s.cfg.ga.requestDnisMinus2,
    s.cfg.ga.requestDnisMinus3, s.cfg.ga.requestAllDnisAgain] →
  (t = s.cfg.ga.requestCategory → s.categorySent = false → exec (.toneOn t env) s =
    .next (ended (forwardActions s) .ok { heard with mfState := .categoryTxd })) ∧
  (¬ (t = s.cfg.ga.requestCategory ∧ s.categorySent = false) →
    (t = s.cfg.ga.requestCategoryAndChangeToGc → exec (.toneOn t env) s =
      .next (ended (forwardActions s) .ok { heard with mfState := .categoryTxd, mfGroup := .giii })) ∧
    (t ≠ s.cfg.ga.requestCategoryAndChangeToGc → t = s.cfg.ga.requestNextAniDigit → exec (.toneOn t env) s =
      .next (aniLatched (forwardActions s) heard)) ∧
    (t ∉ [s.cfg.ga.requestCategoryAndChangeToGc, s.cfg.ga.requestNextAniDigit] →
      (t = s.cfg.ga.requestCategory → exec (.toneOn t env) s =
        .next (ended (forwardActions s) .ok { heard with mfState := .categoryTxd })) ∧
      (t ≠ s.cfg.ga.requestCategory → t = s.cfg.ga.requestChangeToG2 → exec (.toneOn t env) s =
        .next (ended (forwardActions s) .ok { heard with mfState := .categoryTxd, mfGroup := .gii })) ∧
      (t ∉ [s.cfg.ga.requestCategory, s.cfg.ga.requestChangeToG2] →
        (t = s.cfg.ga.addressCompleteChargeSetup → exec (.toneOn t env) s =
          .next (toneAccepted (modeOfTone s.cfg t) (forwardActions s) heard)) ∧
        (t ≠ s.cfg.ga.addressCompleteChargeSetup → t = s.cfg.ga.networkCongestion → exec (.toneOn t env) s =
          .next (toneRefused .networkCongestion (forwardActions s) heard)) ∧
        (t ∉ [s.cfg.ga.addressCompleteChargeSetup, s.cfg.ga.networkCongestion] → exec (.toneOn t env) s =
          .next (errorEnded .invalidMfTone env (forwardActions s) heard)))))

/-- spec/41_tone_events.md section 3 (R216, R214, R215, R225): the Group C requests. The congestion cancels the answer
timer, as spec/42_timer_events.md R245 says of R225; that it does so first is the model's choice (log entry 16). -/
def Obligations.ForwardSideFollowsGroupC : Prop := ∀ (t : Tone) (env : Env) (s : State),
  let heard := heardForward t s
  ToneStarts t s → NoReentry s → s.direction = .forward → s.mfGroup = .giii → s.mfState ≠ .off →
  (t = s.cfg.gc.requestNextAniDigit → exec (.toneOn t env) s = .next (aniLatched (forwardActions s) heard)) ∧
  (t ≠ s.cfg.gc.requestNextAniDigit → t = s.cfg.gc.requestChangeToG2 → exec (.toneOn t env) s =
    .next (ended (forwardActions s) .ok { heard with mfState := .categoryTxd, mfGroup := .gii })) ∧
  (t ∉ [s.cfg.gc.requestNextAniDigit, s.cfg.gc.requestChangeToG2] →
    (t = s.cfg.gc.requestNextDnisDigitAndChangeToGa → exec (.toneOn t env) s =
      .next (dnisLatched (s.dnisIndex.toNat + 1) (forwardActions s) { heard with mfGroup := .gi })) ∧
    (t ≠ s.cfg.gc.requestNextDnisDigitAndChangeToGa → t = s.cfg.gc.networkCongestion → exec (.toneOn t env) s =
      .next (toneRefused .networkCongestion (forwardActions s) heard)) ∧
    (t ∉ [s.cfg.gc.requestNextDnisDigitAndChangeToGa, s.cfg.gc.networkCongestion] → exec (.toneOn t env) s =
      .next (errorEnded .invalidMfTone env (forwardActions s) heard)))

/-- spec/41_tone_events.md section 3 (R217, R218, R224, R225): the Group B decision. A refusal cancels the answer timer, as
spec/42_timer_events.md R245 says of R225; that it does so first is the model's choice (log entry 16). -/
def Obligations.ForwardSideTakesTheDecision : Prop := ∀ (t : Tone) (env : Env) (s : State),
  ToneStarts t s → NoReentry s → s.direction = .forward → s.mfGroup = .gii → s.mfState ≠ .off →
  (t ∈ [s.cfg.gb.acceptCallWithCharge, s.cfg.gb.acceptCallNoCharge, s.cfg.gb.acceptCallSpecial] →
    exec (.toneOn t env) s =
      .next (toneAccepted (modeOfTone s.cfg t) (forwardActions s) (heardForward t s))) ∧
  (∀ cause : Cause,
    t ∉ [s.cfg.gb.acceptCallWithCharge, s.cfg.gb.acceptCallNoCharge, s.cfg.gb.acceptCallSpecial] →
    (t = s.cfg.gb.busyNumber ∧ cause = .busyNumber) ∨
    (t ≠ s.cfg.gb.busyNumber ∧ t = s.cfg.gb.networkCongestion ∧ cause = .networkCongestion) ∨
    (t ∉ [s.cfg.gb.busyNumber, s.cfg.gb.networkCongestion] ∧ t = s.cfg.gb.unallocatedNumber ∧
      cause = .unallocatedNumber) ∨
    (t ∉ [s.cfg.gb.busyNumber, s.cfg.gb.networkCongestion, s.cfg.gb.unallocatedNumber] ∧
      t = s.cfg.gb.numberChanged ∧ cause = .numberChanged) ∨
    (t ∉ [s.cfg.gb.busyNumber, s.cfg.gb.networkCongestion, s.cfg.gb.unallocatedNumber, s.cfg.gb.numberChanged] ∧
      t = s.cfg.gb.lineOutOfOrder ∧ cause = .outOfOrder) ∨
    (t ∉ [s.cfg.gb.busyNumber, s.cfg.gb.networkCongestion, s.cfg.gb.unallocatedNumber, s.cfg.gb.numberChanged,
        s.cfg.gb.lineOutOfOrder] ∧ t = s.cfg.gb.specialInfoTone ∧ cause = .unspecified) →
    exec (.toneOn t env) s = .next (toneRefused cause (forwardActions s) (heardForward t s))) ∧
  (t ∉ [s.cfg.gb.acceptCallWithCharge, s.cfg.gb.acceptCallNoCharge, s.cfg.gb.acceptCallSpecial, s.cfg.gb.busyNumber,
      s.cfg.gb.networkCongestion, s.cfg.gb.unallocatedNumber, s.cfg.gb.numberChanged, s.cfg.gb.lineOutOfOrder,
      s.cfg.gb.specialInfoTone] →
    exec (.toneOn t env) s = .next (errorEnded .invalidMfTone env (forwardActions s) (heardForward t s)))

/-- spec/41_tone_events.md sections 1 to 3 (R189, R191, R192, R195, R206, R211, R219, R220): a tone, or the end of one, that the
phase has no row for is a protocol error; on the DTMF path a tone is only noted. -/
def Obligations.TonesOutOfPhaseAreErrors : Prop := ∀ (t : Tone) (env : Env) (s : State),
  let noted := { s with mfReadTone := t }
  let quiet := { s with mfReadTone := 0 }
  NoReentry s →
  (ToneStarts t s →
    (s.direction ∉ [Direction.backward, .forward] → exec (.toneOn t env) s =
      .next (errorEnded .invalidMfState env [] noted)) ∧
    (s.direction = .backward →
      ((s.mfGroup = .backInit ∧ s.mfState ≠ .seizeAckTxd) ∨ s.mfGroup = .gb ∨
          (s.mfGroup ∈ [MfGroup.ga, .gc] ∧
            s.mfState ∉ [MfState.dnisRqTxd, .categoryRqTxd, .aniRqTxd, .chgGiiTxd]) →
        exec (.toneOn t env) s = .next (errorEnded .invalidMfState env (backwardActions s) (heardBackward t s))) ∧
      (s.mfGroup = .dtmfBackInit →
        exec (.toneOn t env) s = .next (ended (backwardActions s) .ok (heardBackward t s))) ∧
      (s.mfGroup ∉ [MfGroup.backInit, .ga, .gb, .gc, .dtmfBackInit] → exec (.toneOn t env) s =
        .next (errorEnded .invalidMfGroup env (backwardActions s) (heardBackward t s)))) ∧
    (s.direction = .forward →
      (s.mfGroup ∈ [MfGroup.gi, .gii, .giii] → s.mfState = .off → exec (.toneOn t env) s =
        .next (errorEnded .invalidMfState env (forwardActions s) (heardForward t s))) ∧
      (s.mfGroup ∉ [MfGroup.gi, .gii, .giii] → exec (.toneOn t env) s =
        .next (errorEnded .invalidMfGroup env (forwardActions s) (heardForward t s))))) ∧
  (ToneStops s →
    (s.direction ∉ [Direction.backward, .forward] ∨
        (s.direction = .backward ∧
          s.mfState ∉ [MfState.seizeAckTxd, .categoryRqTxd, .dnisRqTxd, .aniRqTxd, .chgGiiTxd, .acceptedTxd,
            .disconnectTxd, .detectingDtmf]) ∨
        (s.direction = .forward ∧
          s.mfState ∉ [MfState.off, .categoryTxd, .dnisTxd, .dnisEndTxd, .aniTxd, .aniEndTxd, .waitingTimeout]) →
      exec (.toneOff env) s = .next (errorEnded .invalidMfState env [] quiet)) ∧
    (∀ d : Digit, s.direction = .forward → 10 ≤ d.toNat →
      (s.mfState = .dnisTxd ∧ s.dnis[s.dnisIndex.toNat]? = some d) ∨
        (s.mfState = .aniTxd ∧ s.ani[s.aniPtr.toNat]? = some d) →
      exec (.toneOff env) s = .next (errorEnded .invalidMfTone env [] quiet)))

/-! ### TONE_OFF -/

/-- spec/41_tone_events.md section 3 (R222, R220, R221): at the end of the backward tone the forward side sends what it latched,
or releases the engine when the exchange is over. -/
def Obligations.ForwardSideSendsWhatIsDue : Prop := ∀ (env : Env) (s : State),
  ToneStops s → s.direction = .forward →
  (s.mfState = .off → exec (.toneOff env) s = .next (ended (releaseActions s) .ok (released s))) ∧
  (s.mfState = .waitingTimeout → exec (.toneOff env) s = .next (ended [] .ok { s with mfReadTone := 0 })) ∧
  (env.werr = false →
    (∀ d : Digit, s.mfState = .dnisTxd → s.dnis[s.dnisIndex.toNat]? = some d → d.toNat ≤ 9 → exec (.toneOff env) s =
      .next (ended (toneActions (digitTone d) s) .ok { s with mfReadTone := 0, mfWriteTone := digitTone d })) ∧
    (s.mfState = .dnisEndTxd → exec (.toneOff env) s =
      .next (ended (toneActions s.cfg.g1.noMoreDnisAvailable s) .ok
        { s with mfReadTone := 0, mfWriteTone := s.cfg.g1.noMoreDnisAvailable })) ∧
    (∀ d : Digit, s.mfState = .aniTxd → s.ani[s.aniPtr.toNat]? = some d → d.toNat ≤ 9 → exec (.toneOff env) s =
      .next (ended (toneActions (digitTone d) s) .ok
        { s with mfReadTone := 0, mfWriteTone := digitTone d, aniPtr := s.aniPtr + 1 })) ∧
    (∀ t : Tone, s.mfState = .aniEndTxd →
      t = (if s.aniRestricted = true ∧ s.cfg.g1.callerAniIsRestricted ≠ 0 then s.cfg.g1.callerAniIsRestricted
        else s.cfg.g1.noMoreAniAvailable) →
      exec (.toneOff env) s =
        .next (ended (toneActions t s) .ok { s with mfReadTone := 0, mfWriteTone := t })) ∧
    (s.mfState = .categoryTxd → exec (.toneOff env) s =
      .next (ended (toneActions s.callerCategory s) .ok
        { s with mfReadTone := 0, mfWriteTone := s.callerCategory, categorySent := true })))

/-- spec/41_tone_events.md section 2 (R206, R226, R227) with spec/42_timer_events.md section 2 (R262): at the end of the forward
tone the backward side mutes its own tone, or finishes the phase that ended. -/
def Obligations.BackwardSideFinishesPhases : Prop := ∀ (env : Env) (s : State),
  let freed := released s
  let freedSent := released (transmitted .clearBack s)
  ToneStops s → NoReentry s → s.direction = .backward →
  (s.mfState ∈ [MfState.seizeAckTxd, .categoryRqTxd, .dnisRqTxd, .aniRqTxd, .chgGiiTxd] → exec (.toneOff env) s =
    .next (ended (toneActions 0 s) .ok { s with mfReadTone := 0, mfWriteTone := 0 })) ∧
  (s.mfState = .detectingDtmf → exec (.toneOff env) s = .next (ended [] .ok { s with mfReadTone := 0 })) ∧
  (s.mfState = .acceptedTxd → s.callState = .collecting → exec (.toneOff env) s =
    .next (ended (cancelsOf [.mfBackCycle] s ++ releaseActions s ++ [Action.evt (.callOffered s.callerCategory)]) .ok
      { freed with armed := withoutTimers [.mfBackCycle] s.armed, callState := .offered })) ∧
  (s.mfState = .acceptedTxd → s.callState ≠ .collecting → duration s.cfg .answerDelay = 0 → exec (.toneOff env) s =
    .next (ended (cancelsOf [.mfBackCycle] s ++ releaseActions s ++ [Action.evt (.callAccepted s.acceptMode)]) .ok
      { freed with armed := withoutTimers [.mfBackCycle] s.armed, callState := .accepted })) ∧
  (s.mfState = .acceptedTxd → s.callState ≠ .collecting → duration s.cfg .answerDelay ≠ 0 → exec (.toneOff env) s =
    .next (ended (cancelsOf [.mfBackCycle] s ++ releaseActions s ++ armActions .answerDelay s) .ok
      { freed with armed := withoutTimers [.mfBackCycle] s.armed ||| timerBit .answerDelay })) ∧
  (s.mfState = .disconnectTxd → env.werr = false → exec (.toneOff env) s =
    .next (ended (lineActions s.cfg .clearBack ++ cancelsOf [.mfBackCycle] s ++ releaseActions s) .ok
      { freedSent with
        armed := withoutTimers [.mfBackCycle] s.armed, casState := .clearBackTxd }))

/-! ### DTMF_DIGIT -/

/-- spec/41_tone_events.md section 4 (R230, R231). -/
def Obligations.DtmfDigitsAreCollected : Prop := ∀ (d : Digit) (env : Env) (s : State),
  s.alarm = false → s.dtmfRxLive = true → NoReentry s →
  ((s.mfGroup = .backInit ∧ s.mfState = .seizeAckTxd) ∨ (s.mfGroup = .dtmfBackInit ∧ s.mfState = .detectingDtmf) →
    (s.dnisLen + 1 < s.cfg.maxDnis.toNat → respStop (s.resp.headD 0) = false → exec (.dtmfDigit d env) s =
      .next (ended [Action.evt (.dnisDigitReceived d)] .ok
        { s with dnis := s.dnis ++ [d], mfGroup := .dtmfBackInit, mfState := .detectingDtmf })) ∧
    (s.dnisLen + 1 = s.cfg.maxDnis.toNat ∨
        (s.dnisLen + 1 < s.cfg.maxDnis.toNat ∧ respStop (s.resp.headD 0) = true) → exec (.dtmfDigit d env) s =
      .next (ended [Action.evt (.dnisDigitReceived d), .evt (.callOffered 0)] .ok
        { s with
          dnis := s.dnis ++ [d], mfGroup := .dtmfBackInit, mfState := .off, dnisDone := true, callState := .offered })) ∧
    (s.cfg.maxDnis.toNat ≤ s.dnisLen → exec (.dtmfDigit d env) s =
      .next (ended [Action.evt (.callOffered 0)] .ok
        { s with mfGroup := .dtmfBackInit, mfState := .off, dnisDone := true, callState := .offered }))) ∧
  (¬ ((s.mfGroup = .backInit ∧ s.mfState = .seizeAckTxd) ∨
      (s.mfGroup = .dtmfBackInit ∧ s.mfState = .detectingDtmf)) →
    exec (.dtmfDigit d env) s = .next (ended [] .ok s))

/-! ### TIMER_EXP -/

/-- spec/42_timer_events.md section 2 (R250, R259, and the last line of R251 to R254, R256, R260) with
spec/60_exceptions.md section 1 (R331): the expiries that are protocol errors. -/
def Obligations.TimeoutsTakeTheErrorPath : Prop := ∀ (env : Env) (s : State), s.alarm = false → NoReentry s →
  (isArmed .seize s = true → exec (.timerExpSeize env) s =
    .next (errorEnded (if s.casState = .seizeTxd then .seizeTimeout else .invalidR2State) env [] (fired .seize s))) ∧
  (isArmed .mfFwdSafety s = true → exec (.timerExpMfFwdSafety env) s =
    .next (errorEnded .fwdSafetyTimeout env [] (fired .mfFwdSafety s))) ∧
  (isArmed .seizePersist s = true → s.casState ∉ [CasState.doubleSeizure, .doubleSeizureClearFwdPending] →
    exec (.timerExpSeizePersist env) s = .next (errorEnded .invalidR2State env [] (fired .seizePersist s))) ∧
  (isArmed .answer s = true → s.casState ∉ [CasState.acceptRxd, .seizeAckRxd] →
    exec (.timerExpAnswer env) s = .next (errorEnded .invalidR2State env [] (fired .answer s))) ∧
  (isArmed .answerDelay s = true → ¬ (s.casState = .seizeAckTxd ∧ s.callState = .offered) →
    exec (.timerExpAnswerDelay env) s = .next (errorEnded .invalidR2State env [] (fired .answerDelay s))) ∧
  (isArmed .doubleAnswer s = true →
    ¬ (s.casState = .executingDoubleAnswer ∧ s.txSig ∈ [some Signal.answer, some .clearBack]) →
    exec (.timerExpDoubleAnswer env) s = .next (errorEnded .invalidR2State env [] (fired .doubleAnswer s))) ∧
  (isArmed .meteringPulse s = true → s.casState ≠ .answerRxd →
    exec (.timerExpMeteringPulse env) s = .next (errorEnded .invalidR2State env [] (fired .meteringPulse s))) ∧
  (isArmed .dtmfStartDial s = true → ¬ (s.casState = .seizeAckRxd ∧ s.mfGroup = .dtmfFwdInit) →
    exec (.timerExpDtmfStartDial env) s = .next (errorEnded .invalidR2State env [] (fired .dtmfStartDial s)))

/-- spec/42_timer_events.md section 2 (R251, R252, R255) with spec/40_line_events.md section 2 (R155, R159): the expiries that
clear the call forward or end it. -/
def Obligations.ClearingTimersAct : Prop := ∀ (env : Env) (s : State),
  let sent := transmitted .clearForward s
  let freedSent := released (transmitted .clearForward s)
  s.alarm = false → NoReentry s → env.werr = false →
  (isArmed .seizePersist s = true → s.casState = .doubleSeizure → exec (.timerExpSeizePersist env) s =
    .next (ended (lineActions s.cfg .clearForward ++ armActions .setCallDown s) .ok
      { sent with
        casState := .clearForwardTxd, armed := withoutTimers [.seizePersist] s.armed ||| timerBit .setCallDown })) ∧
  (isArmed .seizePersist s = true → s.casState = .doubleSeizureClearFwdPending → exec (.timerExpSeizePersist env) s =
    .next (ended
      (lineActions s.cfg .clearForward ++ lineActions s.cfg .idle ++ baselineActions (fired .seizePersist s) ++
        [Action.evt .callEnd])
      .ok (baselineOf (transmitted .idle s)))) ∧
  (isArmed .answer s = true → s.casState ∈ [CasState.acceptRxd, .seizeAckRxd] → exec (.timerExpAnswer env) s =
    .next (ended
      (lineActions s.cfg .clearForward ++ cancelsOf [.dtmfStartDial] s ++ releaseActions s ++
        armActions .setCallDown s ++ [Action.evt (.callDisconnect .noAnswer)])
      .ok
      { freedSent with
        casState := .clearForwardTxd, callState := .disconnected
        armed := withoutTimers [.answer, .dtmfStartDial] s.armed ||| timerBit .setCallDown })) ∧
  (isArmed .setCallDown s = true → exec (.timerExpSetCallDown env) s =
    .next (ended (lineActions s.cfg .idle ++ baselineActions (fired .setCallDown s) ++ [Action.evt .callEnd]) .ok
      (baselineOf (transmitted .idle s))))

/-- spec/42_timer_events.md section 2 (R253, R262, R254, R256, R260) with spec/41_tone_events.md section 1 (R186): the expiries
around the answer. -/
def Obligations.AnswerTimersAct : Prop := ∀ (env : Env) (s : State),
  let expired := fired .answerDelay s
  let sentExpired := transmitted .answer (fired .doubleAnswer s)
  let freed := released s
  let dialled := fired .dtmfStartDial s
  s.alarm = false → NoReentry s →
  (isArmed .answerDelay s = true → s.casState = .seizeAckTxd → s.callState = .offered →
    exec (.timerExpAnswerDelay env) s =
      .next (ended [Action.evt (.callAccepted s.acceptMode)] .ok { expired with callState := .accepted })) ∧
  (isArmed .doubleAnswer s = true → s.casState = .executingDoubleAnswer → env.werr = false →
    (s.txSig = some .answer → exec (.timerExpDoubleAnswer env) s =
      .next (ended (lineActions s.cfg .clearBack ++ [Action.tmrArm .doubleAnswer (duration s.cfg .doubleAnswer)]) .ok
        (transmitted .clearBack s))) ∧
    (s.txSig = some .clearBack → exec (.timerExpDoubleAnswer env) s =
      .next (ended (lineActions s.cfg .answer) .ok
        { sentExpired with casState := .answerTxd }))) ∧
  (∀ (sig : Signal) (cause : Cause), isArmed .meteringPulse s = true → s.casState = .answerRxd →
    classify s.cfg s.rxCode = some (sig, cause) → exec (.timerExpMeteringPulse env) s =
      .next (ended
        (cancelsOf [.answer, .mfFwdSafety, .dtmfStartDial] s ++ releaseActions s ++ [Action.evt (.callDisconnect cause)]) .ok
        { freed with
          casState := if sig = .clearBack then .clearBackRxd else .forcedReleaseRxd
          callState := .disconnected
          armed := withoutTimers [.meteringPulse, .answer, .mfFwdSafety, .dtmfStartDial] s.armed })) ∧
  (isArmed .meteringPulse s = true → s.casState = .answerRxd → classify s.cfg s.rxCode = none →
    exec (.timerExpMeteringPulse env) s = .next (errorEnded .invalidCasBits env [] (fired .meteringPulse s))) ∧
  (isArmed .dtmfStartDial s = true → s.casState = .seizeAckRxd → s.mfGroup = .dtmfFwdInit →
    (env.ierr = false → exec (.timerExpDtmfStartDial env) s =
      .next (ended
        ([Action.dtmfTxInit, .dtmfTiming s.cfg.dtmfOnMs s.cfg.dtmfOffMs] ++ s.dnis.map .dtmfPut) .ok
        { dialled with dtmfTxLive := true, mfState := .dialingDtmf })) ∧
    (env.ierr = true → exec (.timerExpDtmfStartDial env) s =
      .next (errorEnded .internalError env [] (fired .dtmfStartDial s))))

/-- spec/42_timer_events.md section 2 (R257, R258, R262): where the variant has no terminator tone the cycle timer ends the phase
and asks for the next one as a pulse (a tone whose buffer cannot be flushed is reported, spec/41_tone_events.md R183), and is a
timeout otherwise; the resume timer ends the pulse. -/
def Obligations.CycleTimersAct : Prop := ∀ (env : Env) (s : State),
  let expired := fired .mfBackCycle s
  let resumed := fired .mfBackResumeCycle s
  let freed := released (fired .mfBackResumeCycle s)
  let resumedActions := toneActions 0 s ++ releaseActions { s with mfWriteTone := 0 }
  s.alarm = false → NoReentry s →
  (isArmed .mfBackCycle s = true → s.direction = .backward → s.mfReadTone = 0 →
    (s.mfState = .dnisRqTxd → s.cfg.g1.noMoreDnisAvailable = 0 → exec (.timerExpMfBackCycle env) s =
      .next (asked true env [] { expired with dnisDone := true })) ∧
    (s.mfState = .aniRqTxd → s.cfg.g1.noMoreAniAvailable = 0 → exec (.timerExpMfBackCycle env) s =
      .next (asked true env [] { expired with aniDone := true }))) ∧
  (isArmed .mfBackCycle s = true →
    ¬ (s.direction = .backward ∧ s.mfReadTone = 0 ∧
      ((s.mfState = .dnisRqTxd ∧ s.cfg.g1.noMoreDnisAvailable = 0) ∨
        (s.mfState = .aniRqTxd ∧ s.cfg.g1.noMoreAniAvailable = 0))) →
    exec (.timerExpMfBackCycle env) s = .next (errorEnded .backMfTimeout env [] (fired .mfBackCycle s))) ∧
  (isArmed .mfBackResumeCycle s = true →
    (s.mfState ≠ .acceptedTxd → exec (.timerExpMfBackResumeCycle env) s =
      .next (ended (toneActions 0 s ++ armActions .mfBackCycle s) .ok
        { resumed with mfWriteTone := 0, armed := resumed.armed ||| timerBit .mfBackCycle })) ∧
    (s.mfState = .acceptedTxd →
      (s.callState = .collecting → exec (.timerExpMfBackResumeCycle env) s =
        .next (ended (resumedActions ++ [Action.evt (.callOffered s.callerCategory)]) .ok
          { freed with callState := .offered })) ∧
      (s.callState ≠ .collecting → duration s.cfg .answerDelay = 0 → exec (.timerExpMfBackResumeCycle env) s =
        .next (ended (resumedActions ++ [Action.evt (.callAccepted s.acceptMode)]) .ok
          { freed with callState := .accepted })) ∧
      (s.callState ≠ .collecting → duration s.cfg .answerDelay ≠ 0 → exec (.timerExpMfBackResumeCycle env) s =
        .next (ended (resumedActions ++ armActions .answerDelay s) .ok
          { freed with armed := resumed.armed ||| timerBit .answerDelay }))))

/-- spec/42_timer_events.md section 2 (R261): the sample at expiry decides. When it is the pending code, the outcome is that of a
LINE word with the same sample, on the same channel with no persistence check configured: every row of the table, failures
included; then what that says of three samples. -/
def Obligations.PersistenceCheckDecides : Prop := ∀ (env : Env) (r : LineCode) (s : State),
  let expired := fired .casPersistenceCheck s
  let freedSeen := released (committed env.line (some .clearForward) s)
  Expires .casPersistenceCheck s → env.lerr = false → r = maskCode s.cfg env.line →
  (r ≠ s.pendingCode → s.rxValid = true ∧ r = s.rxCode → exec (.timerExpCasPersistenceCheck env) s =
    .next (ended [] .ok { expired with pendingValid := false })) ∧
  (r ≠ s.pendingCode → ¬ (s.rxValid = true ∧ r = s.rxCode) → duration s.cfg .casPersistenceCheck ≠ 0 →
    exec (.timerExpCasPersistenceCheck env) s =
      .next (ended [Action.tmrArm .casPersistenceCheck (duration s.cfg .casPersistenceCheck)] .ok
        { s with
          pendingValid := true, pendingCode := r
          armed := expired.armed ||| timerBit .casPersistenceCheck })) ∧
  (r = s.pendingCode → NoReentry s →
    (∃ t, exec (.line env) (undebounced expired) = .next t ∧
      exec (.timerExpCasPersistenceCheck env) s = .next { t with cfg := s.cfg }) ∧
    (s.casState ∈ [CasState.init, .idle, .blocked] → r = code s.cfg .idle → exec (.timerExpCasPersistenceCheck env) s =
      .next (ended [Action.logRx (some .idle) env.line, .evt .lineIdle] .ok
        (committed env.line (some .idle) (fired .casPersistenceCheck s)))) ∧
    (s.casState = .seizeAckTxd → r = code s.cfg .clearForward → exec (.timerExpCasPersistenceCheck env) s =
      .next (ended
        ([Action.logRx (some .clearForward) env.line] ++ cancelsOf callTimers s ++ releaseActions s ++
          [Action.evt (.callDisconnect .normalClearing)])
        .ok
        { freedSeen with
          casState := .clearForwardRxd, callState := .disconnected, armed := 0 })) ∧
    (casInvalid s.casState = false → decodeSignal s.cfg r s.casState = none →
      exec (.timerExpCasPersistenceCheck env) s =
        .next (errorEnded .invalidCasBits env [Action.logRx none env.line]
          (committed env.line none (fired .casPersistenceCheck s)))))

/-! ### Call control -/

/-- spec/43_call_control.md R270, R271, R273: the staging operations, with their encodings. -/
def Obligations.StagingEffect : Prop :=
  (∀ w : OpBits,
    (w &&& 0xF800 = 0x8800 → decode w = .instr (.stageClr (unpackWord w).env)) ∧
    (w &&& 0xF800 = 0x9000 → decode w = .instr (.stageAni (unpackWord w).arg (unpackWord w).env)) ∧
    (w &&& 0xF800 = 0x9800 → decode w = .instr (.stageDnis (unpackWord w).arg (unpackWord w).env))) ∧
  ∀ (d : Digit) (env : Env) (s : State),
    exec (.stageClr env) s = .next (ended [] .ok { s with stageAni := [], stageDnis := [] }) ∧
    (s.stageAniLen ≠ Config.cap →
      exec (.stageAni d env) s = .next (ended [] .ok { s with stageAni := s.stageAni ++ [d] })) ∧
    (s.stageAniLen = Config.cap → exec (.stageAni d env) s = .next (ended [] .fail s)) ∧
    (s.stageDnisLen ≠ Config.cap →
      exec (.stageDnis d env) s = .next (ended [] .ok { s with stageDnis := s.stageDnis ++ [d] })) ∧
    (s.stageDnisLen = Config.cap → exec (.stageDnis d env) s = .next (ended [] .fail s))

/-- spec/43_call_control.md section 2 (R272). -/
def Obligations.MakeCallEffect : Prop := ∀ (category : Category) (restricted : Bool) (env : Env) (s : State),
  let sent := transmitted .seize s
  (CanDial category s → env.werr = false → exec (.makeCall category restricted env) s =
    .next (ended (lineActions s.cfg .seize ++ armActions .seize s) .ok
      { sent with
        ani := s.stageAni, dnis := s.stageDnis, stageAni := [], stageDnis := [], dnisIndex := 0, aniPtr := 0
        aniRestricted := restricted
        callerCategory := if s.cfg.dialWithDtmf then 0 else categoryTone s.cfg category
        direction := .forward
        mfGroup := if s.cfg.dialWithDtmf then .dtmfFwdInit else .fwdInit
        mfState := .off, casState := .seizeTxd, callState := .dialing
        armed := s.armed ||| timerBit .seize })) ∧
  (¬ CanDial category s → exec (.makeCall category restricted env) s = .next (ended [] .fail s))

/-- spec/43_call_control.md section 3 (R275, R276, R277) with spec/42_timer_events.md section 2 (R262). -/
def Obligations.AckAndAcceptEffect : Prop := ∀ (mode : Mode) (env : Env) (s : State),
  let sent := transmitted .seizeAck s
  let freed := released s
  (s.alarm = false → s.casState = .seizeRxd → env.werr = false → exec (.ackCall env) s =
    .next (ended (lineActions s.cfg .seizeAck) .ok
      { sent with casState := .seizeAckTxd, mfState := .seizeAckTxd })) ∧
  (¬ (s.alarm = false ∧ s.casState = .seizeRxd) → exec (.ackCall env) s = .next (ended [] .fail s)) ∧
  (CanAccept s → s.mfLive = true → s.mfGroup = .gb →
    (acceptTone s.cfg mode ≠ 0 → env.werr = false → exec (.acceptCall mode env) s =
      .next (ended (toneActions (acceptTone s.cfg mode) s ++ armActions .mfBackCycle s) .ok
        { s with
          mfWriteTone := acceptTone s.cfg mode, acceptMode := mode, mfState := .acceptedTxd
          armed := s.armed ||| timerBit .mfBackCycle })) ∧
    (acceptTone s.cfg mode = 0 → exec (.acceptCall mode env) s = .next (ended [] .fail s))) ∧
  (CanAccept s → s.mfGroup = .dtmfBackInit → NoReentry s → exec (.acceptCall mode env) s =
    .next (ended (releaseActions s ++ [Action.evt (.callAccepted mode)]) .ok
      { freed with mfState := s.mfState, acceptMode := mode, callState := .accepted })) ∧
  (CanAccept s → ¬ (s.mfLive = true ∧ s.mfGroup = .gb) → s.mfGroup ≠ .dtmfBackInit →
    (duration s.cfg .answerDelay = 0 → NoReentry s → exec (.acceptCall mode env) s =
      .next (ended [Action.evt (.callAccepted s.acceptMode)] .ok { s with callState := .accepted })) ∧
    (duration s.cfg .answerDelay ≠ 0 → exec (.acceptCall mode env) s =
      .next (ended [Action.tmrArm .answerDelay (duration s.cfg .answerDelay)] .ok
        { s with armed := s.armed ||| timerBit .answerDelay }))) ∧
  (¬ CanAccept s → exec (.acceptCall mode env) s = .next (ended [] .fail s))

/-- spec/43_call_control.md section 3 (R280, R281, R282). -/
def Obligations.AnswerEffect : Prop := ∀ (env : Env) (s : State),
  let freedSent := released (transmitted .answer s)
  (CanAnswer s → env.werr = false →
    (∀ i ∈ [Instr.answerCallMode false env] ++ (if s.cfg.doubleAnswer then [] else [.answerCall env]), exec i s =
      .next (ended (lineActions s.cfg .answer ++ cancelsOf [.answerDelay] s ++ releaseActions s) .ok
        { freedSent with
          casState := .answerTxd, callState := .answered, answered := true
          armed := withoutTimers [.answerDelay] s.armed })) ∧
    (∀ i ∈ [Instr.answerCallMode true env] ++ (if s.cfg.doubleAnswer then [.answerCall env] else []), exec i s =
      .next (ended
        (lineActions s.cfg .answer ++ cancelsOf [.answerDelay] s ++ releaseActions s ++ armActions .doubleAnswer s) .ok
        { freedSent with
          casState := .executingDoubleAnswer, callState := .answered, answered := true
          armed := withoutTimers [.answerDelay] s.armed ||| timerBit .doubleAnswer }))) ∧
  (¬ CanAnswer s → exec (.answerCall env) s = .next (ended [] .fail s) ∧
    ∀ double, exec (.answerCallMode double env) s = .next (ended [] .fail s))

/-- spec/43_call_control.md section 4 (R285, R288; R287 with spec/40_line_events.md R155): the rows of DISCONNECT_CALL that do not
depend on the cause. -/
def Obligations.DisconnectRows : Prop := ∀ (cause : Cause) (env : Env) (s : State),
  let sent := transmitted .clearForward s
  let freedSent := released (transmitted .clearForward s)
  (s.alarm = true ∨ s.callState = .idle → exec (.disconnectCall cause env) s = .next (ended [] .fail s)) ∧
  (s.alarm = false → s.callState ≠ .idle →
    (s.casState ∈ [CasState.clearBackTxd, .clearForwardTxd] ∨ s.mfState = .disconnectTxd →
      exec (.disconnectCall cause env) s = .next (ended [] .ok s)) ∧
    (s.mfState ≠ .disconnectTxd → s.casState = .clearForwardRxd → env.werr = false → NoReentry s →
      exec (.disconnectCall cause env) s =
        .next (ended (lineActions s.cfg .idle ++ baselineActions s ++ [Action.evt .callEnd]) .ok
          (baselineOf (transmitted .idle s)))) ∧
    (s.mfState ≠ .disconnectTxd → s.direction = .forward → env.werr = false →
      (s.casState = .doubleSeizure → exec (.disconnectCall cause env) s =
        .next (ended (lineActions s.cfg .clearForward ++ cancelsOf [.seizePersist] s ++ armActions .setCallDown s) .ok
          { sent with
            casState := .clearForwardTxd
            armed := withoutTimers [.seizePersist] s.armed ||| timerBit .setCallDown })) ∧
      (s.casState = .doubleSeizureClearFwdPending → NoReentry s → exec (.disconnectCall cause env) s =
        .next (ended
          (lineActions s.cfg .clearForward ++ cancelsOf [.seizePersist] s ++ lineActions s.cfg .idle ++
            baselineActions (fired .seizePersist s) ++ [Action.evt .callEnd])
          .ok (baselineOf (transmitted .idle s)))) ∧
      (s.casState ∉ [CasState.doubleSeizure, .doubleSeizureClearFwdPending, .clearBackTxd, .clearForwardTxd,
          .clearForwardRxd] →
        exec (.disconnectCall cause env) s =
          .next (ended
            (lineActions s.cfg .clearForward ++ cancelsOf callTimers s ++ releaseActions s ++
              [Action.tmrArm .setCallDown (duration s.cfg .setCallDown)])
            .ok
            { freedSent with
              casState := .clearForwardTxd, callState := .disconnected
              armed := withoutTimers callTimers s.armed ||| timerBit .setCallDown }))))

/-- spec/43_call_control.md section 4 (R286): the backward side's disconnect, by tone or by line. -/
def Obligations.BackwardDisconnect : Prop := ∀ (cause : Cause) (env : Env) (s : State),
  s.alarm = false → s.callState ≠ .idle → s.mfState ≠ .disconnectTxd → s.direction = .backward → env.werr = false →
  s.casState ∉ [CasState.clearBackTxd, .clearForwardTxd, .clearForwardRxd] →
  (s.callState = .offered ∧ s.mfLive = true ∧ s.mfGroup = .gb ∧ s.mfState = .chgGiiTxd ∧ causeTone s.cfg cause ≠ 0 →
    exec (.disconnectCall cause env) s =
      .next (ended (toneActions (causeTone s.cfg cause) s ++ armActions .mfBackCycle s) .ok
        { s with
          mfWriteTone := causeTone s.cfg cause, mfState := .disconnectTxd, callState := .disconnected
          armed := s.armed ||| timerBit .mfBackCycle })) ∧
  (¬ (s.callState = .offered ∧ s.mfLive = true ∧ s.mfGroup = .gb ∧ s.mfState = .chgGiiTxd ∧
      causeTone s.cfg cause ≠ 0) →
    ∀ sig : Signal,
      (sig = .forcedRelease ∧ s.callState ∈ [CallState.accepted, .answered] ∧ cause = .forcedRelease) ∨
      (sig = .clearBack ∧ ¬ (s.callState ∈ [CallState.accepted, .answered] ∧ cause = .forcedRelease)) →
      let freedSent := released (transmitted sig s)
      exec (.disconnectCall cause env) s =
        .next (ended (lineActions s.cfg sig ++ cancelsOf callTimers s ++ releaseActions s) .ok
          { freedSent with
            casState := .clearBackTxd, callState := .disconnected, armed := withoutTimers callTimers s.armed }))

/-- spec/43_call_control.md section 5 (R292, R293) with spec/70_reset_and_hazards.md section 1 (R362): valid in every state.
"Calling set-idle twice in succession from any state both times ends in Idle, cancels no timer more than once, and raises no
duplicate error". -/
def Obligations.SetIdleAndSetBlocked : Prop :=
  (∀ (env : Env) (s : State),
    let baseSent := baselineOf (transmitted .block s)
    env.werr = false →
    exec (.setIdle env) s =
      .next (ended (lineActions s.cfg .idle ++ baselineActions s) .ok (baselineOf (transmitted .idle s))) ∧
    exec (.setBlocked env) s =
      .next (ended (lineActions s.cfg .block ++ baselineActions s) .ok { baseSent with casState := .blocked })) ∧
  (∀ (env env' : Env) (s : State), env.werr = false → env'.werr = false →
    ∃ t u, exec (.setIdle env) s = .next t ∧ exec (.setIdle env') t = .next u ∧
      t.casState = .idle ∧ u.casState = .idle ∧ u = { t with out := u.out } ∧
      eventsOf t.out = [] ∧ eventsOf u.out = [] ∧
      ∀ tm : Timer, cancelCount tm t.out = (if isArmed tm s then 1 else 0) ∧ cancelCount tm u.out = 0)

/-- spec/43_call_control.md section 6 (R295, R296, R297) with spec/60_exceptions.md section 1 (R331). With no call pending the
alarm clears as a LINE word does on the channel with nothing committed; with a call pending, as the error path and then that LINE
word from Idle: every sample (R131, R138, R139) and the persistence check included. The other clauses say it out. -/
def Obligations.AlarmEffect : Prop := ∀ (env : Env) (s : State),
  let seen := committed env.line (some .idle) s
  let seenBaseSent := committed env.line (some .idle) (baselineOf (transmitted .idle s))
  let dropped := baselineOf (transmitted .idle s)
  (s.alarm = true → exec (.alarm true env) s = .next (ended [] .ok s)) ∧
  (s.alarm = false → exec (.alarm true env) s =
    .next (ended (cancelsOf allTimers s ++ (if s.mfWriteTone = 0 then [] else [Action.tone 0])) .ok
      { s with alarm := true, armed := 0, pendingValid := false, mfWriteTone := 0 })) ∧
  (s.alarm = false → exec (.alarm false env) s = .next (ended [] .ok s)) ∧
  (s.alarm = true → env.lerr = false → s.callState = .idle →
    exec (.alarm false env) s = exec (.line env) { s with alarm := false, rxValid := false }) ∧
  (s.alarm = true → env.lerr = false → s.callState ≠ .idle → NoReentry s →
    ∃ t, exec (.line env) (droppedCall env s) = .next t ∧
      exec (.alarm false env) s = .next { t with out := errorActions .alarmRaised env [] s ++ t.out }) ∧
  (s.alarm = true → NoReentry s → env.lerr = false → env.werr = false →
    (s.callState = .idle → duration s.cfg .casPersistenceCheck ≠ 0 → s.pendingValid = false →
      exec (.alarm false env) s =
        .next (ended (armActions .casPersistenceCheck s) .ok
          { s with
            alarm := false, rxValid := false, pendingValid := true, pendingCode := maskCode s.cfg env.line
            armed := s.armed ||| timerBit .casPersistenceCheck })) ∧
    (s.callState ≠ .idle → duration s.cfg .casPersistenceCheck ≠ 0 → exec (.alarm false env) s =
      .next (ended
        (errorActions .alarmRaised env [] s ++
          [Action.tmrArm .casPersistenceCheck (duration s.cfg .casPersistenceCheck)])
        .ok
        { dropped with
          alarm := false, rxValid := false, pendingValid := true, pendingCode := maskCode s.cfg env.line
          armed := timerBit .casPersistenceCheck })) ∧
    (s.callState = .idle → duration s.cfg .casPersistenceCheck = 0 → s.casState ∈ [CasState.init, .idle, .blocked] →
      maskCode s.cfg env.line = code s.cfg .idle → exec (.alarm false env) s =
        .next (ended (commitActions env.line (some .idle) s ++ [Action.evt .lineIdle]) .ok
          { seen with alarm := false })) ∧
    (s.callState ≠ .idle → duration s.cfg .casPersistenceCheck = 0 → maskCode s.cfg env.line = code s.cfg .idle →
      exec (.alarm false env) s =
        .next (ended
          ([Action.logSnap .alarmRaised] ++ lineActions s.cfg .idle ++ baselineActions s ++
            [Action.evt (.protocolError .alarmRaised), .logRx (some .idle) env.line, .evt .lineIdle])
          .ok
          { seenBaseSent with alarm := false })))

/-! ### Re-entry and I/O failure -/

/-- spec/30_encoding.md section 3 (R97), spec/44_lifecycle_overlay.md section 2 (R316, R317, R318 (d)) with
spec/40_line_events.md R149. A response that nests an event operation or an illegal word runs nothing and outputs nothing, and
inside a nested operation no further word is nested. An application that answers line-idle with SET_BLOCKED: the nested operation
runs inside the LINE operation, with the LINE word's failure bits and not its own, and gives its own STATUS. One that answers
call-accepted with DISCONNECT_CALL: the call does not become Answered. -/
def Obligations.ReentryRunsInsideTheOperation : Prop :=
  ∀ (env env' : Env) (r : LineCode) (resp : RespBits) (rs : List RespBits) (s : State),
  let blocked := baselineOf (transmitted .block (committed env.line (some .idle) s))
  let cleared := released (transmitted .clearForward (committed env.line (some .answer) s))
  s.resp = resp :: rs →
  (∀ ev : Event, (∀ i, decode (respOpWord resp) = .instr i → isCallControl i = false) →
    notify (topCtx env) ev s = .ok () { s with out := s.out ++ [Action.evt ev], resp := rs }) ∧
  (∀ ev : Event, notify { env := env, reenter := reenter env 0 } ev s =
    .ok () { s with out := s.out ++ [Action.evt ev], resp := rs }) ∧
  (LineCommits env r s → env.werr = false → respHasOp resp = true →
    (s.casState ∈ [CasState.init, .idle, .blocked] → r = code s.cfg .idle →
      decode (respOpWord resp) = .instr (.setBlocked env') →
      exec (.line env) s =
        .next (ended
          (commitActions env.line (some .idle) s ++ [Action.evt .lineIdle] ++ lineActions s.cfg .block ++
            baselineActions (committed env.line (some .idle) s) ++ [Action.status .ok])
          .ok { blocked with casState := .blocked })) ∧
    (∀ cause : Cause, s.casState = .seizeAckRxd → s.mfGroup = .dtmfFwdInit → s.direction = .forward →
      s.mfState ≠ .disconnectTxd → r = code s.cfg .answer →
      decode (respOpWord resp) = .instr (.disconnectCall cause env') →
      exec (.line env) s =
        .next (ended
          (commitActions env.line (some .answer) s ++ cancelsOf [.answer] s ++ [Action.evt (.callAccepted .unknown)] ++
            lineActions s.cfg .clearForward ++
            cancelsOf [.seize, .seizePersist, .answerDelay, .doubleAnswer, .setCallDown, .meteringPulse, .mfBackCycle,
              .mfBackResumeCycle, .mfFwdSafety, .dtmfStartDial] s ++
            releaseActions s ++ [Action.tmrArm .setCallDown (duration s.cfg .setCallDown), .status .ok])
          .ok
          { cleared with
            casState := .clearForwardTxd, callState := .disconnected, armed := timerBit .setCallDown })))

/-- spec/60_exceptions.md section 2 (R336, R338) with spec/40_line_events.md R130, R134, R140, R143, R155, R159,
spec/41_tone_events.md R183, R220, R227, spec/42_timer_events.md R251 to R255, R261 and spec/43_call_control.md R272 to R297: a
failed line write, tone-buffer flush or line read is reported, STATUS IoError ends the operation, and the registers stay as the
rule had left them. The flush of a request that ends a TONE_ON or an mf_back_cycle expiry is in BackwardSideCollectsDnis,
BackwardSideCollectsCategoryAndAni and CycleTimersAct; a persistence check and a clearing alarm fail as the LINE word of
PersistenceCheckDecides and AlarmEffect. -/
def Obligations.FailedIoIsReported : Prop := ∀ (env : Env) (s : State),
  let expired := fired .casPersistenceCheck s
  NoReentry s →
  (∀ i : Instr, env.werr = true →
    i = .setIdle env ∨ i = .setBlocked env ∨
    (∃ c r, i = .makeCall c r env ∧ CanDial c s) ∨
    (i = .ackCall env ∧ s.alarm = false ∧ s.casState = .seizeRxd) ∨
    (i = .answerCall env ∧ CanAnswer s) ∨ (∃ double, i = .answerCallMode double env ∧ CanAnswer s) ∨
    (∃ cause, i = .disconnectCall cause env ∧ s.alarm = false ∧ s.callState ≠ .idle ∧ s.mfState ≠ .disconnectTxd ∧
      s.casState ∉ [CasState.clearBackTxd, .clearForwardTxd] ∧
      (s.casState = .clearForwardRxd ∨ s.direction = .forward ∨ (s.direction = .backward ∧ ¬ ToneDue cause s))) →
    exec i s = .next (ended [Action.evt (.osError .lineWrite)] .ioError s)) ∧
  (∀ mode : Mode, env.werr = true → CanAccept s → s.mfLive = true → s.mfGroup = .gb →
    acceptTone s.cfg mode ∉ [0, s.mfWriteTone] →
    exec (.acceptCall mode env) s = .next (ended [Action.evt (.osError .toneFlush)] .ioError s)) ∧
  (∀ cause : Cause, env.werr = true → s.alarm = false → s.direction = .backward → s.casState ∉
      [CasState.clearBackTxd, .clearForwardTxd, .clearForwardRxd] → ToneDue cause s →
    causeTone s.cfg cause ≠ s.mfWriteTone →
    exec (.disconnectCall cause env) s = .next (ended [Action.evt (.osError .toneFlush)] .ioError s)) ∧
  (∀ (i : Instr) (t : Timer), env.werr = true → Expires t s →
    (i = .timerExpSeizePersist env ∧ t = .seizePersist ∧
      s.casState ∈ [CasState.doubleSeizure, .doubleSeizureClearFwdPending]) ∨
    (i = .timerExpAnswer env ∧ t = .answer ∧ s.casState ∈ [CasState.acceptRxd, .seizeAckRxd]) ∨
    (i = .timerExpDoubleAnswer env ∧ t = .doubleAnswer ∧ s.casState = .executingDoubleAnswer ∧
      s.txSig ∈ [some Signal.answer, some .clearBack]) ∨
    (i = .timerExpSetCallDown env ∧ t = .setCallDown) →
    exec i s = .next (ended [Action.evt (.osError .lineWrite)] .ioError (fired t s))) ∧
  (env.werr = true → ToneStops s →
    (s.direction = .backward → s.mfState = .disconnectTxd → exec (.toneOff env) s =
      .next (ended [Action.evt (.osError .lineWrite)] .ioError { s with mfReadTone := 0 })) ∧
    (∀ t : Tone, s.direction = .forward → ToneIsDue t s → t ∉ [0, s.mfWriteTone] → exec (.toneOff env) s =
      .next (ended [Action.evt (.osError .toneFlush)] .ioError { s with mfReadTone := 0 }))) ∧
  (∀ r : LineCode, env.werr = true → LineCommits env r s →
    (∀ sig : Signal, (s.casState = .clearBackTxd ∧ sig = .clearForward) ∨ (s.casState = .clearForwardTxd ∧ sig = .idle) →
      r = code s.cfg sig → exec (.line env) s =
        .next (ended (commitActions env.line (some sig) s ++ [Action.evt (.osError .lineWrite)]) .ioError
          (committed env.line (some sig) s))) ∧
    (s.casState ∈ [CasState.init, .idle] → r ≠ code s.cfg .idle → r ≠ code s.cfg .block → r = code s.cfg .seize →
      env.ierr = false → s.cfg.autoSeizeAck = true →
      let seen := committed env.line (some .seize) s
      exec (.line env) s =
        .next (ended
          (commitActions env.line (some .seize) s ++ (if s.cfg.detectDtmf then [Action.dtmfRxInit] else []) ++
            [Action.mfInit false, .mfInit true, .evt (.osError .lineWrite)])
          .ioError
          { seen with
            dtmfRxLive := if s.cfg.detectDtmf then true else s.dtmfRxLive
            mfLive := true, mfWriteTone := 0, mfReadTone := 0, direction := .backward, callState := .collecting
            mfGroup := .backInit, mfState := .off, casState := .seizeRxd })) ∧
    (s.casState = .seizeTxd → s.cfg.dialWithDtmf = false → env.ierr = false →
      (r = code s.cfg .seizeAck ∨ (s.cfg.frIsSeizeAck = true ∧ r = code s.cfg .forcedRelease)) →
      (∃ d ds, s.dnis = d :: ds ∧ d.toNat ≤ 9) ∨ (s.dnis = [] ∧ s.cfg.g1.noMoreDnisAvailable ≠ 0) →
      let seen := committed env.line (some .seizeAck) s
      exec (.line env) s =
        .next (ended
          (commitActions env.line (some .seizeAck) s ++ cancelsOf [.seize] s ++
            [Action.mfInit false, .mfInit true, .evt (.osError .toneFlush)])
          .ioError
          { seen with
            casState := .seizeAckRxd, mfGroup := .gi, mfState := if s.dnis = [] then .dnisEndTxd else .dnisTxd
            dnisIndex := 0, mfLive := true, mfReadTone := 0, mfWriteTone := 0
            armed := withoutTimers [.casPersistenceCheck, .seize] s.armed }))) ∧
  (env.lerr = true →
    (s.alarm = false → exec (.line env) s = .next (ended [Action.evt (.osError .lineRead)] .ioError s)) ∧
    (Expires .casPersistenceCheck s → exec (.timerExpCasPersistenceCheck env) s =
      .next (ended [Action.evt (.osError .lineRead)] .ioError { expired with pendingValid := false })) ∧
    (s.alarm = true → exec (.alarm false env) s = .next (ended [Action.evt (.osError .lineRead)] .ioError s)))

/-- spec/70_reset_and_hazards.md section 3 (R373) with spec/40_line_events.md R147 to R149 and spec/41_tone_events.md R224: the
Answer and the accept tone may arrive in either order, and both lead to Answered with the same two events. -/
def Obligations.AnswerRaceConverges : Prop := ∀ (lineEnv toneEnv : Env) (r : LineCode) (t : Tone) (s : State),
  LineCommits lineEnv r s → ToneStarts t s → NoReentry s → s.casState = .seizeAckRxd → s.direction = .forward →
  s.mfGroup = .gii → s.mfState ≠ .off → r = code s.cfg .answer →
  t ∈ [s.cfg.gb.acceptCallWithCharge, s.cfg.gb.acceptCallNoCharge, s.cfg.gb.acceptCallSpecial] →
  ∃ a b c d, exec (.line lineEnv) s = .next a ∧ exec (.toneOn t toneEnv) a = .next b ∧
    exec (.toneOn t toneEnv) s = .next c ∧ exec (.line lineEnv) c = .next d ∧
    { b with out := [] } = { d with out := [] } ∧ b.casState = .answerRxd ∧ b.callState = .answered ∧
    eventsOf a.out ++ eventsOf b.out = [.callAccepted (modeOfTone s.cfg t), .callAnswered] ∧
    eventsOf c.out ++ eventsOf d.out = [.callAccepted (modeOfTone s.cfg t), .callAnswered]

/-- spec/44_lifecycle_overlay.md section 1 (R312): after glare "the channel reaches Idle exactly once", whichever side's
Clear-Forward comes first (spec/40_line_events.md R154), and raises call-end exactly once. For the case that one line code shows
both Clear-Forward and Idle, as with the default codes (spec/10_state.md R41). -/
def Obligations.GlareConvergesEitherWay : Prop := ∀ (lineEnv timerEnv : Env) (s : State),
  LineCommits lineEnv (code s.cfg .clearForward) s → code s.cfg .clearForward = code s.cfg .idle → NoReentry s →
  s.casState = .doubleSeizure → isArmed .seizePersist s = true → lineEnv.werr = false → timerEnv.werr = false →
  ∃ a b c d, exec (.timerExpSeizePersist timerEnv) s = .next a ∧ exec (.line lineEnv) a = .next b ∧
    exec (.line lineEnv) s = .next c ∧ exec (.timerExpSeizePersist timerEnv) c = .next d ∧
    a.casState = .clearForwardTxd ∧ c.casState = .doubleSeizureClearFwdPending ∧ b.casState = .idle ∧
    { b with out := [], rxSig := none } = { d with out := [], rxSig := none } ∧
    eventsOf a.out ++ eventsOf b.out = [.callEnd] ∧ eventsOf c.out ++ eventsOf d.out = [.callEnd]

/-- spec/41_tone_events.md section 2 (R196): "the receiver's accumulated DNIS buffer equals the transmitted string, with one
digit-received event per digit, in order". For a string shorter than the room left, each digit as a tone-on and a tone-off. -/
def Obligations.ReceivedDnisIsTheDialledString : Prop := ∀ (ds : List Digit) (env : Env) (s : State),
  (∀ d ∈ ds, d.toNat ≤ 9) → env.werr = false → s.resp = [] → s.alarm = false → s.direction = .backward →
  s.mfLive = true → s.mfReadTone = 0 → s.mfGroup = .ga → s.mfState = .dnisRqTxd → s.dnisDone = false →
  ¬ (s.cfg.getAniFirst = true ∧ s.cfg.aniCanComeFirst = true) → s.cfg.ga.requestNextDnisDigit ≠ 0 →
  s.dnisLen + ds.length < s.cfg.maxDnis.toNat →
  ∃ t, runOps (ds.flatMap fun d => [.toneOn (digitTone d) env, .toneOff env]) s =
      some (t, ds.map .dnisDigitReceived) ∧
    t.dnis = s.dnis ++ ds ∧ t.mfState = .dnisRqTxd ∧ t.dnisDone = false

end
end

