-- ==== Sys2Proof/Laws/State.lean ====
section
/-! SUPPORT. One lemma per field per update of the state, tagged for simp, so that no later proof unfolds a record update. -/

namespace Sys2Proof.Machine

/-! ### `output` -/

@[simp] theorem output_cfg (a : Action) (s : State) : (output a s).cfg = s.cfg := rfl
@[simp] theorem output_casState (a : Action) (s : State) : (output a s).casState = s.casState := rfl
@[simp] theorem output_mfState (a : Action) (s : State) : (output a s).mfState = s.mfState := rfl
@[simp] theorem output_mfGroup (a : Action) (s : State) : (output a s).mfGroup = s.mfGroup := rfl
@[simp] theorem output_callState (a : Action) (s : State) : (output a s).callState = s.callState := rfl
@[simp] theorem output_direction (a : Action) (s : State) : (output a s).direction = s.direction := rfl
@[simp] theorem output_rxValid (a : Action) (s : State) : (output a s).rxValid = s.rxValid := rfl
@[simp] theorem output_rxRaw (a : Action) (s : State) : (output a s).rxRaw = s.rxRaw := rfl
@[simp] theorem output_rxCode (a : Action) (s : State) : (output a s).rxCode = s.rxCode := rfl
@[simp] theorem output_rxSig (a : Action) (s : State) : (output a s).rxSig = s.rxSig := rfl
@[simp] theorem output_txRaw (a : Action) (s : State) : (output a s).txRaw = s.txRaw := rfl
@[simp] theorem output_txCode (a : Action) (s : State) : (output a s).txCode = s.txCode := rfl
@[simp] theorem output_txSig (a : Action) (s : State) : (output a s).txSig = s.txSig := rfl
@[simp] theorem output_ani (a : Action) (s : State) : (output a s).ani = s.ani := rfl
@[simp] theorem output_dnis (a : Action) (s : State) : (output a s).dnis = s.dnis := rfl
@[simp] theorem output_stageAni (a : Action) (s : State) : (output a s).stageAni = s.stageAni := rfl
@[simp] theorem output_stageDnis (a : Action) (s : State) : (output a s).stageDnis = s.stageDnis := rfl
@[simp] theorem output_dnisIndex (a : Action) (s : State) : (output a s).dnisIndex = s.dnisIndex := rfl
@[simp] theorem output_aniPtr (a : Action) (s : State) : (output a s).aniPtr = s.aniPtr := rfl
@[simp] theorem output_mfWriteTone (a : Action) (s : State) : (output a s).mfWriteTone = s.mfWriteTone := rfl
@[simp] theorem output_mfReadTone (a : Action) (s : State) : (output a s).mfReadTone = s.mfReadTone := rfl
@[simp] theorem output_callerCategory (a : Action) (s : State) : (output a s).callerCategory = s.callerCategory := rfl
@[simp] theorem output_aniRestricted (a : Action) (s : State) : (output a s).aniRestricted = s.aniRestricted := rfl
@[simp] theorem output_answered (a : Action) (s : State) : (output a s).answered = s.answered := rfl
@[simp] theorem output_categorySent (a : Action) (s : State) : (output a s).categorySent = s.categorySent := rfl
@[simp] theorem output_alarm (a : Action) (s : State) : (output a s).alarm = s.alarm := rfl
@[simp] theorem output_dnisDone (a : Action) (s : State) : (output a s).dnisDone = s.dnisDone := rfl
@[simp] theorem output_aniDone (a : Action) (s : State) : (output a s).aniDone = s.aniDone := rfl
@[simp] theorem output_acceptMode (a : Action) (s : State) : (output a s).acceptMode = s.acceptMode := rfl
@[simp] theorem output_mfLive (a : Action) (s : State) : (output a s).mfLive = s.mfLive := rfl
@[simp] theorem output_dtmfRxLive (a : Action) (s : State) : (output a s).dtmfRxLive = s.dtmfRxLive := rfl
@[simp] theorem output_dtmfTxLive (a : Action) (s : State) : (output a s).dtmfTxLive = s.dtmfTxLive := rfl
@[simp] theorem output_armed (a : Action) (s : State) : (output a s).armed = s.armed := rfl
@[simp] theorem output_pendingValid (a : Action) (s : State) : (output a s).pendingValid = s.pendingValid := rfl
@[simp] theorem output_pendingCode (a : Action) (s : State) : (output a s).pendingCode = s.pendingCode := rfl
@[simp] theorem output_input (a : Action) (s : State) : (output a s).input = s.input := rfl
@[simp] theorem output_resp (a : Action) (s : State) : (output a s).resp = s.resp := rfl
@[simp] theorem output_out (a : Action) (s : State) : (output a s).out = s.out ++ [a] := rfl
@[simp] theorem output_freeReads (a : Action) (s : State) : (output a s).freeReads = s.freeReads := rfl

/-! ### `outputs` -/

@[simp] theorem outputs_cfg (as : List Action) (s : State) : (outputs as s).cfg = s.cfg := rfl
@[simp] theorem outputs_casState (as : List Action) (s : State) : (outputs as s).casState = s.casState := rfl
@[simp] theorem outputs_mfState (as : List Action) (s : State) : (outputs as s).mfState = s.mfState := rfl
@[simp] theorem outputs_mfGroup (as : List Action) (s : State) : (outputs as s).mfGroup = s.mfGroup := rfl
@[simp] theorem outputs_callState (as : List Action) (s : State) : (outputs as s).callState = s.callState := rfl
@[simp] theorem outputs_direction (as : List Action) (s : State) : (outputs as s).direction = s.direction := rfl
@[simp] theorem outputs_rxValid (as : List Action) (s : State) : (outputs as s).rxValid = s.rxValid := rfl
@[simp] theorem outputs_rxRaw (as : List Action) (s : State) : (outputs as s).rxRaw = s.rxRaw := rfl
@[simp] theorem outputs_rxCode (as : List Action) (s : State) : (outputs as s).rxCode = s.rxCode := rfl
@[simp] theorem outputs_rxSig (as : List Action) (s : State) : (outputs as s).rxSig = s.rxSig := rfl
@[simp] theorem outputs_txRaw (as : List Action) (s : State) : (outputs as s).txRaw = s.txRaw := rfl
@[simp] theorem outputs_txCode (as : List Action) (s : State) : (outputs as s).txCode = s.txCode := rfl
@[simp] theorem outputs_txSig (as : List Action) (s : State) : (outputs as s).txSig = s.txSig := rfl
@[simp] theorem outputs_ani (as : List Action) (s : State) : (outputs as s).ani = s.ani := rfl
@[simp] theorem outputs_dnis (as : List Action) (s : State) : (outputs as s).dnis = s.dnis := rfl
@[simp] theorem outputs_stageAni (as : List Action) (s : State) : (outputs as s).stageAni = s.stageAni := rfl
@[simp] theorem outputs_stageDnis (as : List Action) (s : State) : (outputs as s).stageDnis = s.stageDnis := rfl
@[simp] theorem outputs_dnisIndex (as : List Action) (s : State) : (outputs as s).dnisIndex = s.dnisIndex := rfl
@[simp] theorem outputs_aniPtr (as : List Action) (s : State) : (outputs as s).aniPtr = s.aniPtr := rfl
@[simp] theorem outputs_mfWriteTone (as : List Action) (s : State) : (outputs as s).mfWriteTone = s.mfWriteTone := rfl
@[simp] theorem outputs_mfReadTone (as : List Action) (s : State) : (outputs as s).mfReadTone = s.mfReadTone := rfl
@[simp] theorem outputs_callerCategory (as : List Action) (s : State) : (outputs as s).callerCategory = s.callerCategory := rfl
@[simp] theorem outputs_aniRestricted (as : List Action) (s : State) : (outputs as s).aniRestricted = s.aniRestricted := rfl
@[simp] theorem outputs_answered (as : List Action) (s : State) : (outputs as s).answered = s.answered := rfl
@[simp] theorem outputs_categorySent (as : List Action) (s : State) : (outputs as s).categorySent = s.categorySent := rfl
@[simp] theorem outputs_alarm (as : List Action) (s : State) : (outputs as s).alarm = s.alarm := rfl
@[simp] theorem outputs_dnisDone (as : List Action) (s : State) : (outputs as s).dnisDone = s.dnisDone := rfl
@[simp] theorem outputs_aniDone (as : List Action) (s : State) : (outputs as s).aniDone = s.aniDone := rfl
@[simp] theorem outputs_acceptMode (as : List Action) (s : State) : (outputs as s).acceptMode = s.acceptMode := rfl
@[simp] theorem outputs_mfLive (as : List Action) (s : State) : (outputs as s).mfLive = s.mfLive := rfl
@[simp] theorem outputs_dtmfRxLive (as : List Action) (s : State) : (outputs as s).dtmfRxLive = s.dtmfRxLive := rfl
@[simp] theorem outputs_dtmfTxLive (as : List Action) (s : State) : (outputs as s).dtmfTxLive = s.dtmfTxLive := rfl
@[simp] theorem outputs_armed (as : List Action) (s : State) : (outputs as s).armed = s.armed := rfl
@[simp] theorem outputs_pendingValid (as : List Action) (s : State) : (outputs as s).pendingValid = s.pendingValid := rfl
@[simp] theorem outputs_pendingCode (as : List Action) (s : State) : (outputs as s).pendingCode = s.pendingCode := rfl
@[simp] theorem outputs_input (as : List Action) (s : State) : (outputs as s).input = s.input := rfl
@[simp] theorem outputs_resp (as : List Action) (s : State) : (outputs as s).resp = s.resp := rfl
@[simp] theorem outputs_out (as : List Action) (s : State) : (outputs as s).out = s.out ++ as := rfl
@[simp] theorem outputs_freeReads (as : List Action) (s : State) : (outputs as s).freeReads = s.freeReads := rfl

/-! ### `disarm` -/

@[simp] theorem disarm_cfg (t : Timer) (s : State) : (disarm t s).cfg = s.cfg := rfl
@[simp] theorem disarm_casState (t : Timer) (s : State) : (disarm t s).casState = s.casState := rfl
@[simp] theorem disarm_mfState (t : Timer) (s : State) : (disarm t s).mfState = s.mfState := rfl
@[simp] theorem disarm_mfGroup (t : Timer) (s : State) : (disarm t s).mfGroup = s.mfGroup := rfl
@[simp] theorem disarm_callState (t : Timer) (s : State) : (disarm t s).callState = s.callState := rfl
@[simp] theorem disarm_direction (t : Timer) (s : State) : (disarm t s).direction = s.direction := rfl
@[simp] theorem disarm_rxValid (t : Timer) (s : State) : (disarm t s).rxValid = s.rxValid := rfl
@[simp] theorem disarm_rxRaw (t : Timer) (s : State) : (disarm t s).rxRaw = s.rxRaw := rfl
@[simp] theorem disarm_rxCode (t : Timer) (s : State) : (disarm t s).rxCode = s.rxCode := rfl
@[simp] theorem disarm_rxSig (t : Timer) (s : State) : (disarm t s).rxSig = s.rxSig := rfl
@[simp] theorem disarm_txRaw (t : Timer) (s : State) : (disarm t s).txRaw = s.txRaw := rfl
@[simp] theorem disarm_txCode (t : Timer) (s : State) : (disarm t s).txCode = s.txCode := rfl
@[simp] theorem disarm_txSig (t : Timer) (s : State) : (disarm t s).txSig = s.txSig := rfl
@[simp] theorem disarm_ani (t : Timer) (s : State) : (disarm t s).ani = s.ani := rfl
@[simp] theorem disarm_dnis (t : Timer) (s : State) : (disarm t s).dnis = s.dnis := rfl
@[simp] theorem disarm_stageAni (t : Timer) (s : State) : (disarm t s).stageAni = s.stageAni := rfl
@[simp] theorem disarm_stageDnis (t : Timer) (s : State) : (disarm t s).stageDnis = s.stageDnis := rfl
@[simp] theorem disarm_dnisIndex (t : Timer) (s : State) : (disarm t s).dnisIndex = s.dnisIndex := rfl
@[simp] theorem disarm_aniPtr (t : Timer) (s : State) : (disarm t s).aniPtr = s.aniPtr := rfl
@[simp] theorem disarm_mfWriteTone (t : Timer) (s : State) : (disarm t s).mfWriteTone = s.mfWriteTone := rfl
@[simp] theorem disarm_mfReadTone (t : Timer) (s : State) : (disarm t s).mfReadTone = s.mfReadTone := rfl
@[simp] theorem disarm_callerCategory (t : Timer) (s : State) : (disarm t s).callerCategory = s.callerCategory := rfl
@[simp] theorem disarm_aniRestricted (t : Timer) (s : State) : (disarm t s).aniRestricted = s.aniRestricted := rfl
@[simp] theorem disarm_answered (t : Timer) (s : State) : (disarm t s).answered = s.answered := rfl
@[simp] theorem disarm_categorySent (t : Timer) (s : State) : (disarm t s).categorySent = s.categorySent := rfl
@[simp] theorem disarm_alarm (t : Timer) (s : State) : (disarm t s).alarm = s.alarm := rfl
@[simp] theorem disarm_dnisDone (t : Timer) (s : State) : (disarm t s).dnisDone = s.dnisDone := rfl
@[simp] theorem disarm_aniDone (t : Timer) (s : State) : (disarm t s).aniDone = s.aniDone := rfl
@[simp] theorem disarm_acceptMode (t : Timer) (s : State) : (disarm t s).acceptMode = s.acceptMode := rfl
@[simp] theorem disarm_mfLive (t : Timer) (s : State) : (disarm t s).mfLive = s.mfLive := rfl
@[simp] theorem disarm_dtmfRxLive (t : Timer) (s : State) : (disarm t s).dtmfRxLive = s.dtmfRxLive := rfl
@[simp] theorem disarm_dtmfTxLive (t : Timer) (s : State) : (disarm t s).dtmfTxLive = s.dtmfTxLive := rfl
@[simp] theorem disarm_armed (t : Timer) (s : State) : (disarm t s).armed = s.armed &&& ~~~timerBit t := rfl
@[simp] theorem disarm_pendingValid (t : Timer) (s : State) : (disarm t s).pendingValid = s.pendingValid := rfl
@[simp] theorem disarm_pendingCode (t : Timer) (s : State) : (disarm t s).pendingCode = s.pendingCode := rfl
@[simp] theorem disarm_input (t : Timer) (s : State) : (disarm t s).input = s.input := rfl
@[simp] theorem disarm_resp (t : Timer) (s : State) : (disarm t s).resp = s.resp := rfl
@[simp] theorem disarm_out (t : Timer) (s : State) : (disarm t s).out = s.out := rfl
@[simp] theorem disarm_freeReads (t : Timer) (s : State) : (disarm t s).freeReads = s.freeReads := rfl

/-! ### `startTimer` -/

@[simp] theorem startTimer_cfg (t : Timer) (s : State) : (startTimer t s).cfg = s.cfg := rfl
@[simp] theorem startTimer_casState (t : Timer) (s : State) : (startTimer t s).casState = s.casState := rfl
@[simp] theorem startTimer_mfState (t : Timer) (s : State) : (startTimer t s).mfState = s.mfState := rfl
@[simp] theorem startTimer_mfGroup (t : Timer) (s : State) : (startTimer t s).mfGroup = s.mfGroup := rfl
@[simp] theorem startTimer_callState (t : Timer) (s : State) : (startTimer t s).callState = s.callState := rfl
@[simp] theorem startTimer_direction (t : Timer) (s : State) : (startTimer t s).direction = s.direction := rfl
@[simp] theorem startTimer_rxValid (t : Timer) (s : State) : (startTimer t s).rxValid = s.rxValid := rfl
@[simp] theorem startTimer_rxRaw (t : Timer) (s : State) : (startTimer t s).rxRaw = s.rxRaw := rfl
@[simp] theorem startTimer_rxCode (t : Timer) (s : State) : (startTimer t s).rxCode = s.rxCode := rfl
@[simp] theorem startTimer_rxSig (t : Timer) (s : State) : (startTimer t s).rxSig = s.rxSig := rfl
@[simp] theorem startTimer_txRaw (t : Timer) (s : State) : (startTimer t s).txRaw = s.txRaw := rfl
@[simp] theorem startTimer_txCode (t : Timer) (s : State) : (startTimer t s).txCode = s.txCode := rfl
@[simp] theorem startTimer_txSig (t : Timer) (s : State) : (startTimer t s).txSig = s.txSig := rfl
@[simp] theorem startTimer_ani (t : Timer) (s : State) : (startTimer t s).ani = s.ani := rfl
@[simp] theorem startTimer_dnis (t : Timer) (s : State) : (startTimer t s).dnis = s.dnis := rfl
@[simp] theorem startTimer_stageAni (t : Timer) (s : State) : (startTimer t s).stageAni = s.stageAni := rfl
@[simp] theorem startTimer_stageDnis (t : Timer) (s : State) : (startTimer t s).stageDnis = s.stageDnis := rfl
@[simp] theorem startTimer_dnisIndex (t : Timer) (s : State) : (startTimer t s).dnisIndex = s.dnisIndex := rfl
@[simp] theorem startTimer_aniPtr (t : Timer) (s : State) : (startTimer t s).aniPtr = s.aniPtr := rfl
@[simp] theorem startTimer_mfWriteTone (t : Timer) (s : State) : (startTimer t s).mfWriteTone = s.mfWriteTone := rfl
@[simp] theorem startTimer_mfReadTone (t : Timer) (s : State) : (startTimer t s).mfReadTone = s.mfReadTone := rfl
@[simp] theorem startTimer_callerCategory (t : Timer) (s : State) : (startTimer t s).callerCategory = s.callerCategory := rfl
@[simp] theorem startTimer_aniRestricted (t : Timer) (s : State) : (startTimer t s).aniRestricted = s.aniRestricted := rfl
@[simp] theorem startTimer_answered (t : Timer) (s : State) : (startTimer t s).answered = s.answered := rfl
@[simp] theorem startTimer_categorySent (t : Timer) (s : State) : (startTimer t s).categorySent = s.categorySent := rfl
@[simp] theorem startTimer_alarm (t : Timer) (s : State) : (startTimer t s).alarm = s.alarm := rfl
@[simp] theorem startTimer_dnisDone (t : Timer) (s : State) : (startTimer t s).dnisDone = s.dnisDone := rfl
@[simp] theorem startTimer_aniDone (t : Timer) (s : State) : (startTimer t s).aniDone = s.aniDone := rfl
@[simp] theorem startTimer_acceptMode (t : Timer) (s : State) : (startTimer t s).acceptMode = s.acceptMode := rfl
@[simp] theorem startTimer_mfLive (t : Timer) (s : State) : (startTimer t s).mfLive = s.mfLive := rfl
@[simp] theorem startTimer_dtmfRxLive (t : Timer) (s : State) : (startTimer t s).dtmfRxLive = s.dtmfRxLive := rfl
@[simp] theorem startTimer_dtmfTxLive (t : Timer) (s : State) : (startTimer t s).dtmfTxLive = s.dtmfTxLive := rfl
@[simp] theorem startTimer_armed (t : Timer) (s : State) : (startTimer t s).armed = s.armed ||| timerBit t := rfl
@[simp] theorem startTimer_pendingValid (t : Timer) (s : State) : (startTimer t s).pendingValid = s.pendingValid := rfl
@[simp] theorem startTimer_pendingCode (t : Timer) (s : State) : (startTimer t s).pendingCode = s.pendingCode := rfl
@[simp] theorem startTimer_input (t : Timer) (s : State) : (startTimer t s).input = s.input := rfl
@[simp] theorem startTimer_resp (t : Timer) (s : State) : (startTimer t s).resp = s.resp := rfl
@[simp] theorem startTimer_out (t : Timer) (s : State) : (startTimer t s).out = s.out ++ [.tmrArm t (duration s.cfg t)] := rfl
@[simp] theorem startTimer_freeReads (t : Timer) (s : State) : (startTimer t s).freeReads = s.freeReads := rfl

/-! ### `clearPending` -/

@[simp] theorem clearPending_cfg (s : State) : (clearPending s).cfg = s.cfg := rfl
@[simp] theorem clearPending_casState (s : State) : (clearPending s).casState = s.casState := rfl
@[simp] theorem clearPending_mfState (s : State) : (clearPending s).mfState = s.mfState := rfl
@[simp] theorem clearPending_mfGroup (s : State) : (clearPending s).mfGroup = s.mfGroup := rfl
@[simp] theorem clearPending_callState (s : State) : (clearPending s).callState = s.callState := rfl
@[simp] theorem clearPending_direction (s : State) : (clearPending s).direction = s.direction := rfl
@[simp] theorem clearPending_rxValid (s : State) : (clearPending s).rxValid = s.rxValid := rfl
@[simp] theorem clearPending_rxRaw (s : State) : (clearPending s).rxRaw = s.rxRaw := rfl
@[simp] theorem clearPending_rxCode (s : State) : (clearPending s).rxCode = s.rxCode := rfl
@[simp] theorem clearPending_rxSig (s : State) : (clearPending s).rxSig = s.rxSig := rfl
@[simp] theorem clearPending_txRaw (s : State) : (clearPending s).txRaw = s.txRaw := rfl
@[simp] theorem clearPending_txCode (s : State) : (clearPending s).txCode = s.txCode := rfl
@[simp] theorem clearPending_txSig (s : State) : (clearPending s).txSig = s.txSig := rfl
@[simp] theorem clearPending_ani (s : State) : (clearPending s).ani = s.ani := rfl
@[simp] theorem clearPending_dnis (s : State) : (clearPending s).dnis = s.dnis := rfl
@[simp] theorem clearPending_stageAni (s : State) : (clearPending s).stageAni = s.stageAni := rfl
@[simp] theorem clearPending_stageDnis (s : State) : (clearPending s).stageDnis = s.stageDnis := rfl
@[simp] theorem clearPending_dnisIndex (s : State) : (clearPending s).dnisIndex = s.dnisIndex := rfl
@[simp] theorem clearPending_aniPtr (s : State) : (clearPending s).aniPtr = s.aniPtr := rfl
@[simp] theorem clearPending_mfWriteTone (s : State) : (clearPending s).mfWriteTone = s.mfWriteTone := rfl
@[simp] theorem clearPending_mfReadTone (s : State) : (clearPending s).mfReadTone = s.mfReadTone := rfl
@[simp] theorem clearPending_callerCategory (s : State) : (clearPending s).callerCategory = s.callerCategory := rfl
@[simp] theorem clearPending_aniRestricted (s : State) : (clearPending s).aniRestricted = s.aniRestricted := rfl
@[simp] theorem clearPending_answered (s : State) : (clearPending s).answered = s.answered := rfl
@[simp] theorem clearPending_categorySent (s : State) : (clearPending s).categorySent = s.categorySent := rfl
@[simp] theorem clearPending_alarm (s : State) : (clearPending s).alarm = s.alarm := rfl
@[simp] theorem clearPending_dnisDone (s : State) : (clearPending s).dnisDone = s.dnisDone := rfl
@[simp] theorem clearPending_aniDone (s : State) : (clearPending s).aniDone = s.aniDone := rfl
@[simp] theorem clearPending_acceptMode (s : State) : (clearPending s).acceptMode = s.acceptMode := rfl
@[simp] theorem clearPending_mfLive (s : State) : (clearPending s).mfLive = s.mfLive := rfl
@[simp] theorem clearPending_dtmfRxLive (s : State) : (clearPending s).dtmfRxLive = s.dtmfRxLive := rfl
@[simp] theorem clearPending_dtmfTxLive (s : State) : (clearPending s).dtmfTxLive = s.dtmfTxLive := rfl
@[simp] theorem clearPending_armed (s : State) : (clearPending s).armed = s.armed := rfl
@[simp] theorem clearPending_pendingValid (s : State) : (clearPending s).pendingValid = false := rfl
@[simp] theorem clearPending_pendingCode (s : State) : (clearPending s).pendingCode = s.pendingCode := rfl
@[simp] theorem clearPending_input (s : State) : (clearPending s).input = s.input := rfl
@[simp] theorem clearPending_resp (s : State) : (clearPending s).resp = s.resp := rfl
@[simp] theorem clearPending_out (s : State) : (clearPending s).out = s.out := rfl
@[simp] theorem clearPending_freeReads (s : State) : (clearPending s).freeReads = s.freeReads := rfl

/-! ### `writeLine` -/

@[simp] theorem writeLine_cfg (sig : Signal) (s : State) : (writeLine sig s).cfg = s.cfg := rfl
@[simp] theorem writeLine_casState (sig : Signal) (s : State) : (writeLine sig s).casState = s.casState := rfl
@[simp] theorem writeLine_mfState (sig : Signal) (s : State) : (writeLine sig s).mfState = s.mfState := rfl
@[simp] theorem writeLine_mfGroup (sig : Signal) (s : State) : (writeLine sig s).mfGroup = s.mfGroup := rfl
@[simp] theorem writeLine_callState (sig : Signal) (s : State) : (writeLine sig s).callState = s.callState := rfl
@[simp] theorem writeLine_direction (sig : Signal) (s : State) : (writeLine sig s).direction = s.direction := rfl
@[simp] theorem writeLine_rxValid (sig : Signal) (s : State) : (writeLine sig s).rxValid = s.rxValid := rfl
@[simp] theorem writeLine_rxRaw (sig : Signal) (s : State) : (writeLine sig s).rxRaw = s.rxRaw := rfl
@[simp] theorem writeLine_rxCode (sig : Signal) (s : State) : (writeLine sig s).rxCode = s.rxCode := rfl
@[simp] theorem writeLine_rxSig (sig : Signal) (s : State) : (writeLine sig s).rxSig = s.rxSig := rfl
@[simp] theorem writeLine_txRaw (sig : Signal) (s : State) : (writeLine sig s).txRaw = txRawOf s.cfg sig := rfl
@[simp] theorem writeLine_txCode (sig : Signal) (s : State) : (writeLine sig s).txCode = maskCode s.cfg (txRawOf s.cfg sig) := rfl
@[simp] theorem writeLine_txSig (sig : Signal) (s : State) : (writeLine sig s).txSig = some sig := rfl
@[simp] theorem writeLine_ani (sig : Signal) (s : State) : (writeLine sig s).ani = s.ani := rfl
@[simp] theorem writeLine_dnis (sig : Signal) (s : State) : (writeLine sig s).dnis = s.dnis := rfl
@[simp] theorem writeLine_stageAni (sig : Signal) (s : State) : (writeLine sig s).stageAni = s.stageAni := rfl
@[simp] theorem writeLine_stageDnis (sig : Signal) (s : State) : (writeLine sig s).stageDnis = s.stageDnis := rfl
@[simp] theorem writeLine_dnisIndex (sig : Signal) (s : State) : (writeLine sig s).dnisIndex = s.dnisIndex := rfl
@[simp] theorem writeLine_aniPtr (sig : Signal) (s : State) : (writeLine sig s).aniPtr = s.aniPtr := rfl
@[simp] theorem writeLine_mfWriteTone (sig : Signal) (s : State) : (writeLine sig s).mfWriteTone = s.mfWriteTone := rfl
@[simp] theorem writeLine_mfReadTone (sig : Signal) (s : State) : (writeLine sig s).mfReadTone = s.mfReadTone := rfl
@[simp] theorem writeLine_callerCategory (sig : Signal) (s : State) : (writeLine sig s).callerCategory = s.callerCategory := rfl
@[simp] theorem writeLine_aniRestricted (sig : Signal) (s : State) : (writeLine sig s).aniRestricted = s.aniRestricted := rfl
@[simp] theorem writeLine_answered (sig : Signal) (s : State) : (writeLine sig s).answered = s.answered := rfl
@[simp] theorem writeLine_categorySent (sig : Signal) (s : State) : (writeLine sig s).categorySent = s.categorySent := rfl
@[simp] theorem writeLine_alarm (sig : Signal) (s : State) : (writeLine sig s).alarm = s.alarm := rfl
@[simp] theorem writeLine_dnisDone (sig : Signal) (s : State) : (writeLine sig s).dnisDone = s.dnisDone := rfl
@[simp] theorem writeLine_aniDone (sig : Signal) (s : State) : (writeLine sig s).aniDone = s.aniDone := rfl
@[simp] theorem writeLine_acceptMode (sig : Signal) (s : State) : (writeLine sig s).acceptMode = s.acceptMode := rfl
@[simp] theorem writeLine_mfLive (sig : Signal) (s : State) : (writeLine sig s).mfLive = s.mfLive := rfl
@[simp] theorem writeLine_dtmfRxLive (sig : Signal) (s : State) : (writeLine sig s).dtmfRxLive = s.dtmfRxLive := rfl
@[simp] theorem writeLine_dtmfTxLive (sig : Signal) (s : State) : (writeLine sig s).dtmfTxLive = s.dtmfTxLive := rfl
@[simp] theorem writeLine_armed (sig : Signal) (s : State) : (writeLine sig s).armed = s.armed := rfl
@[simp] theorem writeLine_pendingValid (sig : Signal) (s : State) : (writeLine sig s).pendingValid = s.pendingValid := rfl
@[simp] theorem writeLine_pendingCode (sig : Signal) (s : State) : (writeLine sig s).pendingCode = s.pendingCode := rfl
@[simp] theorem writeLine_input (sig : Signal) (s : State) : (writeLine sig s).input = s.input := rfl
@[simp] theorem writeLine_resp (sig : Signal) (s : State) : (writeLine sig s).resp = s.resp := rfl
@[simp] theorem writeLine_out (sig : Signal) (s : State) : (writeLine sig s).out = s.out ++ [.setLine (txRawOf s.cfg sig), .logTx sig (txRawOf s.cfg sig)] := rfl
@[simp] theorem writeLine_freeReads (sig : Signal) (s : State) : (writeLine sig s).freeReads = s.freeReads := rfl

/-! ### `putTone` -/

@[simp] theorem putTone_cfg (t : Tone) (s : State) : (putTone t s).cfg = s.cfg := rfl
@[simp] theorem putTone_casState (t : Tone) (s : State) : (putTone t s).casState = s.casState := rfl
@[simp] theorem putTone_mfState (t : Tone) (s : State) : (putTone t s).mfState = s.mfState := rfl
@[simp] theorem putTone_mfGroup (t : Tone) (s : State) : (putTone t s).mfGroup = s.mfGroup := rfl
@[simp] theorem putTone_callState (t : Tone) (s : State) : (putTone t s).callState = s.callState := rfl
@[simp] theorem putTone_direction (t : Tone) (s : State) : (putTone t s).direction = s.direction := rfl
@[simp] theorem putTone_rxValid (t : Tone) (s : State) : (putTone t s).rxValid = s.rxValid := rfl
@[simp] theorem putTone_rxRaw (t : Tone) (s : State) : (putTone t s).rxRaw = s.rxRaw := rfl
@[simp] theorem putTone_rxCode (t : Tone) (s : State) : (putTone t s).rxCode = s.rxCode := rfl
@[simp] theorem putTone_rxSig (t : Tone) (s : State) : (putTone t s).rxSig = s.rxSig := rfl
@[simp] theorem putTone_txRaw (t : Tone) (s : State) : (putTone t s).txRaw = s.txRaw := rfl
@[simp] theorem putTone_txCode (t : Tone) (s : State) : (putTone t s).txCode = s.txCode := rfl
@[simp] theorem putTone_txSig (t : Tone) (s : State) : (putTone t s).txSig = s.txSig := rfl
@[simp] theorem putTone_ani (t : Tone) (s : State) : (putTone t s).ani = s.ani := rfl
@[simp] theorem putTone_dnis (t : Tone) (s : State) : (putTone t s).dnis = s.dnis := rfl
@[simp] theorem putTone_stageAni (t : Tone) (s : State) : (putTone t s).stageAni = s.stageAni := rfl
@[simp] theorem putTone_stageDnis (t : Tone) (s : State) : (putTone t s).stageDnis = s.stageDnis := rfl
@[simp] theorem putTone_dnisIndex (t : Tone) (s : State) : (putTone t s).dnisIndex = s.dnisIndex := rfl
@[simp] theorem putTone_aniPtr (t : Tone) (s : State) : (putTone t s).aniPtr = s.aniPtr := rfl
@[simp] theorem putTone_mfWriteTone (t : Tone) (s : State) : (putTone t s).mfWriteTone = t := rfl
@[simp] theorem putTone_mfReadTone (t : Tone) (s : State) : (putTone t s).mfReadTone = s.mfReadTone := rfl
@[simp] theorem putTone_callerCategory (t : Tone) (s : State) : (putTone t s).callerCategory = s.callerCategory := rfl
@[simp] theorem putTone_aniRestricted (t : Tone) (s : State) : (putTone t s).aniRestricted = s.aniRestricted := rfl
@[simp] theorem putTone_answered (t : Tone) (s : State) : (putTone t s).answered = s.answered := rfl
@[simp] theorem putTone_categorySent (t : Tone) (s : State) : (putTone t s).categorySent = s.categorySent := rfl
@[simp] theorem putTone_alarm (t : Tone) (s : State) : (putTone t s).alarm = s.alarm := rfl
@[simp] theorem putTone_dnisDone (t : Tone) (s : State) : (putTone t s).dnisDone = s.dnisDone := rfl
@[simp] theorem putTone_aniDone (t : Tone) (s : State) : (putTone t s).aniDone = s.aniDone := rfl
@[simp] theorem putTone_acceptMode (t : Tone) (s : State) : (putTone t s).acceptMode = s.acceptMode := rfl
@[simp] theorem putTone_mfLive (t : Tone) (s : State) : (putTone t s).mfLive = s.mfLive := rfl
@[simp] theorem putTone_dtmfRxLive (t : Tone) (s : State) : (putTone t s).dtmfRxLive = s.dtmfRxLive := rfl
@[simp] theorem putTone_dtmfTxLive (t : Tone) (s : State) : (putTone t s).dtmfTxLive = s.dtmfTxLive := rfl
@[simp] theorem putTone_armed (t : Tone) (s : State) : (putTone t s).armed = s.armed := rfl
@[simp] theorem putTone_pendingValid (t : Tone) (s : State) : (putTone t s).pendingValid = s.pendingValid := rfl
@[simp] theorem putTone_pendingCode (t : Tone) (s : State) : (putTone t s).pendingCode = s.pendingCode := rfl
@[simp] theorem putTone_input (t : Tone) (s : State) : (putTone t s).input = s.input := rfl
@[simp] theorem putTone_resp (t : Tone) (s : State) : (putTone t s).resp = s.resp := rfl
@[simp] theorem putTone_out (t : Tone) (s : State) : (putTone t s).out = s.out ++ [.tone t] := rfl
@[simp] theorem putTone_freeReads (t : Tone) (s : State) : (putTone t s).freeReads = s.freeReads := rfl

/-! ### `mfRelease` -/

@[simp] theorem mfRelease_cfg (s : State) : (mfRelease s).cfg = s.cfg := rfl
@[simp] theorem mfRelease_casState (s : State) : (mfRelease s).casState = s.casState := rfl
@[simp] theorem mfRelease_mfState (s : State) : (mfRelease s).mfState = s.mfState := rfl
@[simp] theorem mfRelease_mfGroup (s : State) : (mfRelease s).mfGroup = s.mfGroup := rfl
@[simp] theorem mfRelease_callState (s : State) : (mfRelease s).callState = s.callState := rfl
@[simp] theorem mfRelease_direction (s : State) : (mfRelease s).direction = s.direction := rfl
@[simp] theorem mfRelease_rxValid (s : State) : (mfRelease s).rxValid = s.rxValid := rfl
@[simp] theorem mfRelease_rxRaw (s : State) : (mfRelease s).rxRaw = s.rxRaw := rfl
@[simp] theorem mfRelease_rxCode (s : State) : (mfRelease s).rxCode = s.rxCode := rfl
@[simp] theorem mfRelease_rxSig (s : State) : (mfRelease s).rxSig = s.rxSig := rfl
@[simp] theorem mfRelease_txRaw (s : State) : (mfRelease s).txRaw = s.txRaw := rfl
@[simp] theorem mfRelease_txCode (s : State) : (mfRelease s).txCode = s.txCode := rfl
@[simp] theorem mfRelease_txSig (s : State) : (mfRelease s).txSig = s.txSig := rfl
@[simp] theorem mfRelease_ani (s : State) : (mfRelease s).ani = s.ani := rfl
@[simp] theorem mfRelease_dnis (s : State) : (mfRelease s).dnis = s.dnis := rfl
@[simp] theorem mfRelease_stageAni (s : State) : (mfRelease s).stageAni = s.stageAni := rfl
@[simp] theorem mfRelease_stageDnis (s : State) : (mfRelease s).stageDnis = s.stageDnis := rfl
@[simp] theorem mfRelease_dnisIndex (s : State) : (mfRelease s).dnisIndex = s.dnisIndex := rfl
@[simp] theorem mfRelease_aniPtr (s : State) : (mfRelease s).aniPtr = s.aniPtr := rfl
@[simp] theorem mfRelease_mfWriteTone (s : State) : (mfRelease s).mfWriteTone = 0 := rfl
@[simp] theorem mfRelease_mfReadTone (s : State) : (mfRelease s).mfReadTone = 0 := rfl
@[simp] theorem mfRelease_callerCategory (s : State) : (mfRelease s).callerCategory = s.callerCategory := rfl
@[simp] theorem mfRelease_aniRestricted (s : State) : (mfRelease s).aniRestricted = s.aniRestricted := rfl
@[simp] theorem mfRelease_answered (s : State) : (mfRelease s).answered = s.answered := rfl
@[simp] theorem mfRelease_categorySent (s : State) : (mfRelease s).categorySent = s.categorySent := rfl
@[simp] theorem mfRelease_alarm (s : State) : (mfRelease s).alarm = s.alarm := rfl
@[simp] theorem mfRelease_dnisDone (s : State) : (mfRelease s).dnisDone = s.dnisDone := rfl
@[simp] theorem mfRelease_aniDone (s : State) : (mfRelease s).aniDone = s.aniDone := rfl
@[simp] theorem mfRelease_acceptMode (s : State) : (mfRelease s).acceptMode = s.acceptMode := rfl
@[simp] theorem mfRelease_mfLive (s : State) : (mfRelease s).mfLive = false := rfl
@[simp] theorem mfRelease_dtmfRxLive (s : State) : (mfRelease s).dtmfRxLive = false := rfl
@[simp] theorem mfRelease_dtmfTxLive (s : State) : (mfRelease s).dtmfTxLive = false := rfl
@[simp] theorem mfRelease_armed (s : State) : (mfRelease s).armed = s.armed := rfl
@[simp] theorem mfRelease_pendingValid (s : State) : (mfRelease s).pendingValid = s.pendingValid := rfl
@[simp] theorem mfRelease_pendingCode (s : State) : (mfRelease s).pendingCode = s.pendingCode := rfl
@[simp] theorem mfRelease_input (s : State) : (mfRelease s).input = s.input := rfl
@[simp] theorem mfRelease_resp (s : State) : (mfRelease s).resp = s.resp := rfl
@[simp] theorem mfRelease_out (s : State) : (mfRelease s).out = s.out ++ releaseActions s := rfl
@[simp] theorem mfRelease_freeReads (s : State) : (mfRelease s).freeReads = s.freeReads := rfl

/-! ### `clearCall` -/

@[simp] theorem clearCall_cfg (s : State) : (clearCall s).cfg = s.cfg := rfl
@[simp] theorem clearCall_casState (s : State) : (clearCall s).casState = .idle := rfl
@[simp] theorem clearCall_mfState (s : State) : (clearCall s).mfState = .off := rfl
@[simp] theorem clearCall_mfGroup (s : State) : (clearCall s).mfGroup = .noGroup := rfl
@[simp] theorem clearCall_callState (s : State) : (clearCall s).callState = .idle := rfl
@[simp] theorem clearCall_direction (s : State) : (clearCall s).direction = .stopped := rfl
@[simp] theorem clearCall_rxValid (s : State) : (clearCall s).rxValid = s.rxValid := rfl
@[simp] theorem clearCall_rxRaw (s : State) : (clearCall s).rxRaw = s.rxRaw := rfl
@[simp] theorem clearCall_rxCode (s : State) : (clearCall s).rxCode = s.rxCode := rfl
@[simp] theorem clearCall_rxSig (s : State) : (clearCall s).rxSig = s.rxSig := rfl
@[simp] theorem clearCall_txRaw (s : State) : (clearCall s).txRaw = s.txRaw := rfl
@[simp] theorem clearCall_txCode (s : State) : (clearCall s).txCode = s.txCode := rfl
@[simp] theorem clearCall_txSig (s : State) : (clearCall s).txSig = s.txSig := rfl
@[simp] theorem clearCall_ani (s : State) : (clearCall s).ani = [] := rfl
@[simp] theorem clearCall_dnis (s : State) : (clearCall s).dnis = [] := rfl
@[simp] theorem clearCall_stageAni (s : State) : (clearCall s).stageAni = s.stageAni := rfl
@[simp] theorem clearCall_stageDnis (s : State) : (clearCall s).stageDnis = s.stageDnis := rfl
@[simp] theorem clearCall_dnisIndex (s : State) : (clearCall s).dnisIndex = 0 := rfl
@[simp] theorem clearCall_aniPtr (s : State) : (clearCall s).aniPtr = 0 := rfl
@[simp] theorem clearCall_mfWriteTone (s : State) : (clearCall s).mfWriteTone = s.mfWriteTone := rfl
@[simp] theorem clearCall_mfReadTone (s : State) : (clearCall s).mfReadTone = s.mfReadTone := rfl
@[simp] theorem clearCall_callerCategory (s : State) : (clearCall s).callerCategory = 0 := rfl
@[simp] theorem clearCall_aniRestricted (s : State) : (clearCall s).aniRestricted = false := rfl
@[simp] theorem clearCall_answered (s : State) : (clearCall s).answered = false := rfl
@[simp] theorem clearCall_categorySent (s : State) : (clearCall s).categorySent = false := rfl
@[simp] theorem clearCall_alarm (s : State) : (clearCall s).alarm = s.alarm := rfl
@[simp] theorem clearCall_dnisDone (s : State) : (clearCall s).dnisDone = false := rfl
@[simp] theorem clearCall_aniDone (s : State) : (clearCall s).aniDone = false := rfl
@[simp] theorem clearCall_acceptMode (s : State) : (clearCall s).acceptMode = .charge := rfl
@[simp] theorem clearCall_mfLive (s : State) : (clearCall s).mfLive = s.mfLive := rfl
@[simp] theorem clearCall_dtmfRxLive (s : State) : (clearCall s).dtmfRxLive = s.dtmfRxLive := rfl
@[simp] theorem clearCall_dtmfTxLive (s : State) : (clearCall s).dtmfTxLive = s.dtmfTxLive := rfl
@[simp] theorem clearCall_armed (s : State) : (clearCall s).armed = s.armed := rfl
@[simp] theorem clearCall_pendingValid (s : State) : (clearCall s).pendingValid = s.pendingValid := rfl
@[simp] theorem clearCall_pendingCode (s : State) : (clearCall s).pendingCode = s.pendingCode := rfl
@[simp] theorem clearCall_input (s : State) : (clearCall s).input = s.input := rfl
@[simp] theorem clearCall_resp (s : State) : (clearCall s).resp = s.resp := rfl
@[simp] theorem clearCall_out (s : State) : (clearCall s).out = s.out := rfl
@[simp] theorem clearCall_freeReads (s : State) : (clearCall s).freeReads = s.freeReads := rfl

/-! ### `acquireMf` -/

@[simp] theorem acquireMf_cfg (s : State) : (acquireMf s).cfg = s.cfg := rfl
@[simp] theorem acquireMf_casState (s : State) : (acquireMf s).casState = s.casState := rfl
@[simp] theorem acquireMf_mfState (s : State) : (acquireMf s).mfState = s.mfState := rfl
@[simp] theorem acquireMf_mfGroup (s : State) : (acquireMf s).mfGroup = s.mfGroup := rfl
@[simp] theorem acquireMf_callState (s : State) : (acquireMf s).callState = s.callState := rfl
@[simp] theorem acquireMf_direction (s : State) : (acquireMf s).direction = s.direction := rfl
@[simp] theorem acquireMf_rxValid (s : State) : (acquireMf s).rxValid = s.rxValid := rfl
@[simp] theorem acquireMf_rxRaw (s : State) : (acquireMf s).rxRaw = s.rxRaw := rfl
@[simp] theorem acquireMf_rxCode (s : State) : (acquireMf s).rxCode = s.rxCode := rfl
@[simp] theorem acquireMf_rxSig (s : State) : (acquireMf s).rxSig = s.rxSig := rfl
@[simp] theorem acquireMf_txRaw (s : State) : (acquireMf s).txRaw = s.txRaw := rfl
@[simp] theorem acquireMf_txCode (s : State) : (acquireMf s).txCode = s.txCode := rfl
@[simp] theorem acquireMf_txSig (s : State) : (acquireMf s).txSig = s.txSig := rfl
@[simp] theorem acquireMf_ani (s : State) : (acquireMf s).ani = s.ani := rfl
@[simp] theorem acquireMf_dnis (s : State) : (acquireMf s).dnis = s.dnis := rfl
@[simp] theorem acquireMf_stageAni (s : State) : (acquireMf s).stageAni = s.stageAni := rfl
@[simp] theorem acquireMf_stageDnis (s : State) : (acquireMf s).stageDnis = s.stageDnis := rfl
@[simp] theorem acquireMf_dnisIndex (s : State) : (acquireMf s).dnisIndex = s.dnisIndex := rfl
@[simp] theorem acquireMf_aniPtr (s : State) : (acquireMf s).aniPtr = s.aniPtr := rfl
@[simp] theorem acquireMf_mfWriteTone (s : State) : (acquireMf s).mfWriteTone = 0 := rfl
@[simp] theorem acquireMf_mfReadTone (s : State) : (acquireMf s).mfReadTone = 0 := rfl
@[simp] theorem acquireMf_callerCategory (s : State) : (acquireMf s).callerCategory = s.callerCategory := rfl
@[simp] theorem acquireMf_aniRestricted (s : State) : (acquireMf s).aniRestricted = s.aniRestricted := rfl
@[simp] theorem acquireMf_answered (s : State) : (acquireMf s).answered = s.answered := rfl
@[simp] theorem acquireMf_categorySent (s : State) : (acquireMf s).categorySent = s.categorySent := rfl
@[simp] theorem acquireMf_alarm (s : State) : (acquireMf s).alarm = s.alarm := rfl
@[simp] theorem acquireMf_dnisDone (s : State) : (acquireMf s).dnisDone = s.dnisDone := rfl
@[simp] theorem acquireMf_aniDone (s : State) : (acquireMf s).aniDone = s.aniDone := rfl
@[simp] theorem acquireMf_acceptMode (s : State) : (acquireMf s).acceptMode = s.acceptMode := rfl
@[simp] theorem acquireMf_mfLive (s : State) : (acquireMf s).mfLive = true := rfl
@[simp] theorem acquireMf_dtmfRxLive (s : State) : (acquireMf s).dtmfRxLive = s.dtmfRxLive := rfl
@[simp] theorem acquireMf_dtmfTxLive (s : State) : (acquireMf s).dtmfTxLive = s.dtmfTxLive := rfl
@[simp] theorem acquireMf_armed (s : State) : (acquireMf s).armed = s.armed := rfl
@[simp] theorem acquireMf_pendingValid (s : State) : (acquireMf s).pendingValid = s.pendingValid := rfl
@[simp] theorem acquireMf_pendingCode (s : State) : (acquireMf s).pendingCode = s.pendingCode := rfl
@[simp] theorem acquireMf_input (s : State) : (acquireMf s).input = s.input := rfl
@[simp] theorem acquireMf_resp (s : State) : (acquireMf s).resp = s.resp := rfl
@[simp] theorem acquireMf_out (s : State) : (acquireMf s).out = s.out ++ [.mfInit false, .mfInit true] := rfl
@[simp] theorem acquireMf_freeReads (s : State) : (acquireMf s).freeReads = s.freeReads := rfl

/-! ### `acquireDtmfRx` -/

@[simp] theorem acquireDtmfRx_cfg (s : State) : (acquireDtmfRx s).cfg = s.cfg := rfl
@[simp] theorem acquireDtmfRx_casState (s : State) : (acquireDtmfRx s).casState = s.casState := rfl
@[simp] theorem acquireDtmfRx_mfState (s : State) : (acquireDtmfRx s).mfState = s.mfState := rfl
@[simp] theorem acquireDtmfRx_mfGroup (s : State) : (acquireDtmfRx s).mfGroup = s.mfGroup := rfl
@[simp] theorem acquireDtmfRx_callState (s : State) : (acquireDtmfRx s).callState = s.callState := rfl
@[simp] theorem acquireDtmfRx_direction (s : State) : (acquireDtmfRx s).direction = s.direction := rfl
@[simp] theorem acquireDtmfRx_rxValid (s : State) : (acquireDtmfRx s).rxValid = s.rxValid := rfl
@[simp] theorem acquireDtmfRx_rxRaw (s : State) : (acquireDtmfRx s).rxRaw = s.rxRaw := rfl
@[simp] theorem acquireDtmfRx_rxCode (s : State) : (acquireDtmfRx s).rxCode = s.rxCode := rfl
@[simp] theorem acquireDtmfRx_rxSig (s : State) : (acquireDtmfRx s).rxSig = s.rxSig := rfl
@[simp] theorem acquireDtmfRx_txRaw (s : State) : (acquireDtmfRx s).txRaw = s.txRaw := rfl
@[simp] theorem acquireDtmfRx_txCode (s : State) : (acquireDtmfRx s).txCode = s.txCode := rfl
@[simp] theorem acquireDtmfRx_txSig (s : State) : (acquireDtmfRx s).txSig = s.txSig := rfl
@[simp] theorem acquireDtmfRx_ani (s : State) : (acquireDtmfRx s).ani = s.ani := rfl
@[simp] theorem acquireDtmfRx_dnis (s : State) : (acquireDtmfRx s).dnis = s.dnis := rfl
@[simp] theorem acquireDtmfRx_stageAni (s : State) : (acquireDtmfRx s).stageAni = s.stageAni := rfl
@[simp] theorem acquireDtmfRx_stageDnis (s : State) : (acquireDtmfRx s).stageDnis = s.stageDnis := rfl
@[simp] theorem acquireDtmfRx_dnisIndex (s : State) : (acquireDtmfRx s).dnisIndex = s.dnisIndex := rfl
@[simp] theorem acquireDtmfRx_aniPtr (s : State) : (acquireDtmfRx s).aniPtr = s.aniPtr := rfl
@[simp] theorem acquireDtmfRx_mfWriteTone (s : State) : (acquireDtmfRx s).mfWriteTone = s.mfWriteTone := rfl
@[simp] theorem acquireDtmfRx_mfReadTone (s : State) : (acquireDtmfRx s).mfReadTone = s.mfReadTone := rfl
@[simp] theorem acquireDtmfRx_callerCategory (s : State) : (acquireDtmfRx s).callerCategory = s.callerCategory := rfl
@[simp] theorem acquireDtmfRx_aniRestricted (s : State) : (acquireDtmfRx s).aniRestricted = s.aniRestricted := rfl
@[simp] theorem acquireDtmfRx_answered (s : State) : (acquireDtmfRx s).answered = s.answered := rfl
@[simp] theorem acquireDtmfRx_categorySent (s : State) : (acquireDtmfRx s).categorySent = s.categorySent := rfl
@[simp] theorem acquireDtmfRx_alarm (s : State) : (acquireDtmfRx s).alarm = s.alarm := rfl
@[simp] theorem acquireDtmfRx_dnisDone (s : State) : (acquireDtmfRx s).dnisDone = s.dnisDone := rfl
@[simp] theorem acquireDtmfRx_aniDone (s : State) : (acquireDtmfRx s).aniDone = s.aniDone := rfl
@[simp] theorem acquireDtmfRx_acceptMode (s : State) : (acquireDtmfRx s).acceptMode = s.acceptMode := rfl
@[simp] theorem acquireDtmfRx_mfLive (s : State) : (acquireDtmfRx s).mfLive = s.mfLive := rfl
@[simp] theorem acquireDtmfRx_dtmfRxLive (s : State) : (acquireDtmfRx s).dtmfRxLive = true := rfl
@[simp] theorem acquireDtmfRx_dtmfTxLive (s : State) : (acquireDtmfRx s).dtmfTxLive = s.dtmfTxLive := rfl
@[simp] theorem acquireDtmfRx_armed (s : State) : (acquireDtmfRx s).armed = s.armed := rfl
@[simp] theorem acquireDtmfRx_pendingValid (s : State) : (acquireDtmfRx s).pendingValid = s.pendingValid := rfl
@[simp] theorem acquireDtmfRx_pendingCode (s : State) : (acquireDtmfRx s).pendingCode = s.pendingCode := rfl
@[simp] theorem acquireDtmfRx_input (s : State) : (acquireDtmfRx s).input = s.input := rfl
@[simp] theorem acquireDtmfRx_resp (s : State) : (acquireDtmfRx s).resp = s.resp := rfl
@[simp] theorem acquireDtmfRx_out (s : State) : (acquireDtmfRx s).out = s.out ++ [.dtmfRxInit] := rfl
@[simp] theorem acquireDtmfRx_freeReads (s : State) : (acquireDtmfRx s).freeReads = s.freeReads := rfl

/-! ### `acquireDtmfTx` -/

@[simp] theorem acquireDtmfTx_cfg (s : State) : (acquireDtmfTx s).cfg = s.cfg := rfl
@[simp] theorem acquireDtmfTx_casState (s : State) : (acquireDtmfTx s).casState = s.casState := rfl
@[simp] theorem acquireDtmfTx_mfState (s : State) : (acquireDtmfTx s).mfState = s.mfState := rfl
@[simp] theorem acquireDtmfTx_mfGroup (s : State) : (acquireDtmfTx s).mfGroup = s.mfGroup := rfl
@[simp] theorem acquireDtmfTx_callState (s : State) : (acquireDtmfTx s).callState = s.callState := rfl
@[simp] theorem acquireDtmfTx_direction (s : State) : (acquireDtmfTx s).direction = s.direction := rfl
@[simp] theorem acquireDtmfTx_rxValid (s : State) : (acquireDtmfTx s).rxValid = s.rxValid := rfl
@[simp] theorem acquireDtmfTx_rxRaw (s : State) : (acquireDtmfTx s).rxRaw = s.rxRaw := rfl
@[simp] theorem acquireDtmfTx_rxCode (s : State) : (acquireDtmfTx s).rxCode = s.rxCode := rfl
@[simp] theorem acquireDtmfTx_rxSig (s : State) : (acquireDtmfTx s).rxSig = s.rxSig := rfl
@[simp] theorem acquireDtmfTx_txRaw (s : State) : (acquireDtmfTx s).txRaw = s.txRaw := rfl
@[simp] theorem acquireDtmfTx_txCode (s : State) : (acquireDtmfTx s).txCode = s.txCode := rfl
@[simp] theorem acquireDtmfTx_txSig (s : State) : (acquireDtmfTx s).txSig = s.txSig := rfl
@[simp] theorem acquireDtmfTx_ani (s : State) : (acquireDtmfTx s).ani = s.ani := rfl
@[simp] theorem acquireDtmfTx_dnis (s : State) : (acquireDtmfTx s).dnis = s.dnis := rfl
@[simp] theorem acquireDtmfTx_stageAni (s : State) : (acquireDtmfTx s).stageAni = s.stageAni := rfl
@[simp] theorem acquireDtmfTx_stageDnis (s : State) : (acquireDtmfTx s).stageDnis = s.stageDnis := rfl
@[simp] theorem acquireDtmfTx_dnisIndex (s : State) : (acquireDtmfTx s).dnisIndex = s.dnisIndex := rfl
@[simp] theorem acquireDtmfTx_aniPtr (s : State) : (acquireDtmfTx s).aniPtr = s.aniPtr := rfl
@[simp] theorem acquireDtmfTx_mfWriteTone (s : State) : (acquireDtmfTx s).mfWriteTone = s.mfWriteTone := rfl
@[simp] theorem acquireDtmfTx_mfReadTone (s : State) : (acquireDtmfTx s).mfReadTone = s.mfReadTone := rfl
@[simp] theorem acquireDtmfTx_callerCategory (s : State) : (acquireDtmfTx s).callerCategory = s.callerCategory := rfl
@[simp] theorem acquireDtmfTx_aniRestricted (s : State) : (acquireDtmfTx s).aniRestricted = s.aniRestricted := rfl
@[simp] theorem acquireDtmfTx_answered (s : State) : (acquireDtmfTx s).answered = s.answered := rfl
@[simp] theorem acquireDtmfTx_categorySent (s : State) : (acquireDtmfTx s).categorySent = s.categorySent := rfl
@[simp] theorem acquireDtmfTx_alarm (s : State) : (acquireDtmfTx s).alarm = s.alarm := rfl
@[simp] theorem acquireDtmfTx_dnisDone (s : State) : (acquireDtmfTx s).dnisDone = s.dnisDone := rfl
@[simp] theorem acquireDtmfTx_aniDone (s : State) : (acquireDtmfTx s).aniDone = s.aniDone := rfl
@[simp] theorem acquireDtmfTx_acceptMode (s : State) : (acquireDtmfTx s).acceptMode = s.acceptMode := rfl
@[simp] theorem acquireDtmfTx_mfLive (s : State) : (acquireDtmfTx s).mfLive = s.mfLive := rfl
@[simp] theorem acquireDtmfTx_dtmfRxLive (s : State) : (acquireDtmfTx s).dtmfRxLive = s.dtmfRxLive := rfl
@[simp] theorem acquireDtmfTx_dtmfTxLive (s : State) : (acquireDtmfTx s).dtmfTxLive = true := rfl
@[simp] theorem acquireDtmfTx_armed (s : State) : (acquireDtmfTx s).armed = s.armed := rfl
@[simp] theorem acquireDtmfTx_pendingValid (s : State) : (acquireDtmfTx s).pendingValid = s.pendingValid := rfl
@[simp] theorem acquireDtmfTx_pendingCode (s : State) : (acquireDtmfTx s).pendingCode = s.pendingCode := rfl
@[simp] theorem acquireDtmfTx_input (s : State) : (acquireDtmfTx s).input = s.input := rfl
@[simp] theorem acquireDtmfTx_resp (s : State) : (acquireDtmfTx s).resp = s.resp := rfl
@[simp] theorem acquireDtmfTx_freeReads (s : State) : (acquireDtmfTx s).freeReads = s.freeReads := rfl

/-! ### `appendAni` -/

@[simp] theorem appendAni_cfg (d : Digit) (s : State) : (appendAni d s).cfg = s.cfg := rfl
@[simp] theorem appendAni_casState (d : Digit) (s : State) : (appendAni d s).casState = s.casState := rfl
@[simp] theorem appendAni_mfState (d : Digit) (s : State) : (appendAni d s).mfState = s.mfState := rfl
@[simp] theorem appendAni_mfGroup (d : Digit) (s : State) : (appendAni d s).mfGroup = s.mfGroup := rfl
@[simp] theorem appendAni_callState (d : Digit) (s : State) : (appendAni d s).callState = s.callState := rfl
@[simp] theorem appendAni_direction (d : Digit) (s : State) : (appendAni d s).direction = s.direction := rfl
@[simp] theorem appendAni_rxValid (d : Digit) (s : State) : (appendAni d s).rxValid = s.rxValid := rfl
@[simp] theorem appendAni_rxRaw (d : Digit) (s : State) : (appendAni d s).rxRaw = s.rxRaw := rfl
@[simp] theorem appendAni_rxCode (d : Digit) (s : State) : (appendAni d s).rxCode = s.rxCode := rfl
@[simp] theorem appendAni_rxSig (d : Digit) (s : State) : (appendAni d s).rxSig = s.rxSig := rfl
@[simp] theorem appendAni_txRaw (d : Digit) (s : State) : (appendAni d s).txRaw = s.txRaw := rfl
@[simp] theorem appendAni_txCode (d : Digit) (s : State) : (appendAni d s).txCode = s.txCode := rfl
@[simp] theorem appendAni_txSig (d : Digit) (s : State) : (appendAni d s).txSig = s.txSig := rfl
@[simp] theorem appendAni_ani (d : Digit) (s : State) : (appendAni d s).ani = s.ani ++ [d] := rfl
@[simp] theorem appendAni_dnis (d : Digit) (s : State) : (appendAni d s).dnis = s.dnis := rfl
@[simp] theorem appendAni_stageAni (d : Digit) (s : State) : (appendAni d s).stageAni = s.stageAni := rfl
@[simp] theorem appendAni_stageDnis (d : Digit) (s : State) : (appendAni d s).stageDnis = s.stageDnis := rfl
@[simp] theorem appendAni_dnisIndex (d : Digit) (s : State) : (appendAni d s).dnisIndex = s.dnisIndex := rfl
@[simp] theorem appendAni_aniPtr (d : Digit) (s : State) : (appendAni d s).aniPtr = s.aniPtr := rfl
@[simp] theorem appendAni_mfWriteTone (d : Digit) (s : State) : (appendAni d s).mfWriteTone = s.mfWriteTone := rfl
@[simp] theorem appendAni_mfReadTone (d : Digit) (s : State) : (appendAni d s).mfReadTone = s.mfReadTone := rfl
@[simp] theorem appendAni_callerCategory (d : Digit) (s : State) : (appendAni d s).callerCategory = s.callerCategory := rfl
@[simp] theorem appendAni_aniRestricted (d : Digit) (s : State) : (appendAni d s).aniRestricted = s.aniRestricted := rfl
@[simp] theorem appendAni_answered (d : Digit) (s : State) : (appendAni d s).answered = s.answered := rfl
@[simp] theorem appendAni_categorySent (d : Digit) (s : State) : (appendAni d s).categorySent = s.categorySent := rfl
@[simp] theorem appendAni_alarm (d : Digit) (s : State) : (appendAni d s).alarm = s.alarm := rfl
@[simp] theorem appendAni_dnisDone (d : Digit) (s : State) : (appendAni d s).dnisDone = s.dnisDone := rfl
@[simp] theorem appendAni_aniDone (d : Digit) (s : State) : (appendAni d s).aniDone = s.aniDone := rfl
@[simp] theorem appendAni_acceptMode (d : Digit) (s : State) : (appendAni d s).acceptMode = s.acceptMode := rfl
@[simp] theorem appendAni_mfLive (d : Digit) (s : State) : (appendAni d s).mfLive = s.mfLive := rfl
@[simp] theorem appendAni_dtmfRxLive (d : Digit) (s : State) : (appendAni d s).dtmfRxLive = s.dtmfRxLive := rfl
@[simp] theorem appendAni_dtmfTxLive (d : Digit) (s : State) : (appendAni d s).dtmfTxLive = s.dtmfTxLive := rfl
@[simp] theorem appendAni_armed (d : Digit) (s : State) : (appendAni d s).armed = s.armed := rfl
@[simp] theorem appendAni_pendingValid (d : Digit) (s : State) : (appendAni d s).pendingValid = s.pendingValid := rfl
@[simp] theorem appendAni_pendingCode (d : Digit) (s : State) : (appendAni d s).pendingCode = s.pendingCode := rfl
@[simp] theorem appendAni_input (d : Digit) (s : State) : (appendAni d s).input = s.input := rfl
@[simp] theorem appendAni_resp (d : Digit) (s : State) : (appendAni d s).resp = s.resp := rfl
@[simp] theorem appendAni_out (d : Digit) (s : State) : (appendAni d s).out = s.out := rfl
@[simp] theorem appendAni_freeReads (d : Digit) (s : State) : (appendAni d s).freeReads = s.freeReads := rfl

/-! ### `appendDnis` -/

@[simp] theorem appendDnis_cfg (d : Digit) (s : State) : (appendDnis d s).cfg = s.cfg := rfl
@[simp] theorem appendDnis_casState (d : Digit) (s : State) : (appendDnis d s).casState = s.casState := rfl
@[simp] theorem appendDnis_mfState (d : Digit) (s : State) : (appendDnis d s).mfState = s.mfState := rfl
@[simp] theorem appendDnis_mfGroup (d : Digit) (s : State) : (appendDnis d s).mfGroup = s.mfGroup := rfl
@[simp] theorem appendDnis_callState (d : Digit) (s : State) : (appendDnis d s).callState = s.callState := rfl
@[simp] theorem appendDnis_direction (d : Digit) (s : State) : (appendDnis d s).direction = s.direction := rfl
@[simp] theorem appendDnis_rxValid (d : Digit) (s : State) : (appendDnis d s).rxValid = s.rxValid := rfl
@[simp] theorem appendDnis_rxRaw (d : Digit) (s : State) : (appendDnis d s).rxRaw = s.rxRaw := rfl
@[simp] theorem appendDnis_rxCode (d : Digit) (s : State) : (appendDnis d s).rxCode = s.rxCode := rfl
@[simp] theorem appendDnis_rxSig (d : Digit) (s : State) : (appendDnis d s).rxSig = s.rxSig := rfl
@[simp] theorem appendDnis_txRaw (d : Digit) (s : State) : (appendDnis d s).txRaw = s.txRaw := rfl
@[simp] theorem appendDnis_txCode (d : Digit) (s : State) : (appendDnis d s).txCode = s.txCode := rfl
@[simp] theorem appendDnis_txSig (d : Digit) (s : State) : (appendDnis d s).txSig = s.txSig := rfl
@[simp] theorem appendDnis_ani (d : Digit) (s : State) : (appendDnis d s).ani = s.ani := rfl
@[simp] theorem appendDnis_dnis (d : Digit) (s : State) : (appendDnis d s).dnis = s.dnis ++ [d] := rfl
@[simp] theorem appendDnis_stageAni (d : Digit) (s : State) : (appendDnis d s).stageAni = s.stageAni := rfl
@[simp] theorem appendDnis_stageDnis (d : Digit) (s : State) : (appendDnis d s).stageDnis = s.stageDnis := rfl
@[simp] theorem appendDnis_dnisIndex (d : Digit) (s : State) : (appendDnis d s).dnisIndex = s.dnisIndex := rfl
@[simp] theorem appendDnis_aniPtr (d : Digit) (s : State) : (appendDnis d s).aniPtr = s.aniPtr := rfl
@[simp] theorem appendDnis_mfWriteTone (d : Digit) (s : State) : (appendDnis d s).mfWriteTone = s.mfWriteTone := rfl
@[simp] theorem appendDnis_mfReadTone (d : Digit) (s : State) : (appendDnis d s).mfReadTone = s.mfReadTone := rfl
@[simp] theorem appendDnis_callerCategory (d : Digit) (s : State) : (appendDnis d s).callerCategory = s.callerCategory := rfl
@[simp] theorem appendDnis_aniRestricted (d : Digit) (s : State) : (appendDnis d s).aniRestricted = s.aniRestricted := rfl
@[simp] theorem appendDnis_answered (d : Digit) (s : State) : (appendDnis d s).answered = s.answered := rfl
@[simp] theorem appendDnis_categorySent (d : Digit) (s : State) : (appendDnis d s).categorySent = s.categorySent := rfl
@[simp] theorem appendDnis_alarm (d : Digit) (s : State) : (appendDnis d s).alarm = s.alarm := rfl
@[simp] theorem appendDnis_dnisDone (d : Digit) (s : State) : (appendDnis d s).dnisDone = s.dnisDone := rfl
@[simp] theorem appendDnis_aniDone (d : Digit) (s : State) : (appendDnis d s).aniDone = s.aniDone := rfl
@[simp] theorem appendDnis_acceptMode (d : Digit) (s : State) : (appendDnis d s).acceptMode = s.acceptMode := rfl
@[simp] theorem appendDnis_mfLive (d : Digit) (s : State) : (appendDnis d s).mfLive = s.mfLive := rfl
@[simp] theorem appendDnis_dtmfRxLive (d : Digit) (s : State) : (appendDnis d s).dtmfRxLive = s.dtmfRxLive := rfl
@[simp] theorem appendDnis_dtmfTxLive (d : Digit) (s : State) : (appendDnis d s).dtmfTxLive = s.dtmfTxLive := rfl
@[simp] theorem appendDnis_armed (d : Digit) (s : State) : (appendDnis d s).armed = s.armed := rfl
@[simp] theorem appendDnis_pendingValid (d : Digit) (s : State) : (appendDnis d s).pendingValid = s.pendingValid := rfl
@[simp] theorem appendDnis_pendingCode (d : Digit) (s : State) : (appendDnis d s).pendingCode = s.pendingCode := rfl
@[simp] theorem appendDnis_input (d : Digit) (s : State) : (appendDnis d s).input = s.input := rfl
@[simp] theorem appendDnis_resp (d : Digit) (s : State) : (appendDnis d s).resp = s.resp := rfl
@[simp] theorem appendDnis_out (d : Digit) (s : State) : (appendDnis d s).out = s.out := rfl
@[simp] theorem appendDnis_freeReads (d : Digit) (s : State) : (appendDnis d s).freeReads = s.freeReads := rfl

/-! ### `dropResponses` -/

@[simp] theorem dropResponses_cfg (s : State) : (dropResponses s).cfg = s.cfg := rfl
@[simp] theorem dropResponses_casState (s : State) : (dropResponses s).casState = s.casState := rfl
@[simp] theorem dropResponses_mfState (s : State) : (dropResponses s).mfState = s.mfState := rfl
@[simp] theorem dropResponses_mfGroup (s : State) : (dropResponses s).mfGroup = s.mfGroup := rfl
@[simp] theorem dropResponses_callState (s : State) : (dropResponses s).callState = s.callState := rfl
@[simp] theorem dropResponses_direction (s : State) : (dropResponses s).direction = s.direction := rfl
@[simp] theorem dropResponses_rxValid (s : State) : (dropResponses s).rxValid = s.rxValid := rfl
@[simp] theorem dropResponses_rxRaw (s : State) : (dropResponses s).rxRaw = s.rxRaw := rfl
@[simp] theorem dropResponses_rxCode (s : State) : (dropResponses s).rxCode = s.rxCode := rfl
@[simp] theorem dropResponses_rxSig (s : State) : (dropResponses s).rxSig = s.rxSig := rfl
@[simp] theorem dropResponses_txRaw (s : State) : (dropResponses s).txRaw = s.txRaw := rfl
@[simp] theorem dropResponses_txCode (s : State) : (dropResponses s).txCode = s.txCode := rfl
@[simp] theorem dropResponses_txSig (s : State) : (dropResponses s).txSig = s.txSig := rfl
@[simp] theorem dropResponses_ani (s : State) : (dropResponses s).ani = s.ani := rfl
@[simp] theorem dropResponses_dnis (s : State) : (dropResponses s).dnis = s.dnis := rfl
@[simp] theorem dropResponses_stageAni (s : State) : (dropResponses s).stageAni = s.stageAni := rfl
@[simp] theorem dropResponses_stageDnis (s : State) : (dropResponses s).stageDnis = s.stageDnis := rfl
@[simp] theorem dropResponses_dnisIndex (s : State) : (dropResponses s).dnisIndex = s.dnisIndex := rfl
@[simp] theorem dropResponses_aniPtr (s : State) : (dropResponses s).aniPtr = s.aniPtr := rfl
@[simp] theorem dropResponses_mfWriteTone (s : State) : (dropResponses s).mfWriteTone = s.mfWriteTone := rfl
@[simp] theorem dropResponses_mfReadTone (s : State) : (dropResponses s).mfReadTone = s.mfReadTone := rfl
@[simp] theorem dropResponses_callerCategory (s : State) : (dropResponses s).callerCategory = s.callerCategory := rfl
@[simp] theorem dropResponses_aniRestricted (s : State) : (dropResponses s).aniRestricted = s.aniRestricted := rfl
@[simp] theorem dropResponses_answered (s : State) : (dropResponses s).answered = s.answered := rfl
@[simp] theorem dropResponses_categorySent (s : State) : (dropResponses s).categorySent = s.categorySent := rfl
@[simp] theorem dropResponses_alarm (s : State) : (dropResponses s).alarm = s.alarm := rfl
@[simp] theorem dropResponses_dnisDone (s : State) : (dropResponses s).dnisDone = s.dnisDone := rfl
@[simp] theorem dropResponses_aniDone (s : State) : (dropResponses s).aniDone = s.aniDone := rfl
@[simp] theorem dropResponses_acceptMode (s : State) : (dropResponses s).acceptMode = s.acceptMode := rfl
@[simp] theorem dropResponses_mfLive (s : State) : (dropResponses s).mfLive = s.mfLive := rfl
@[simp] theorem dropResponses_dtmfRxLive (s : State) : (dropResponses s).dtmfRxLive = s.dtmfRxLive := rfl
@[simp] theorem dropResponses_dtmfTxLive (s : State) : (dropResponses s).dtmfTxLive = s.dtmfTxLive := rfl
@[simp] theorem dropResponses_armed (s : State) : (dropResponses s).armed = s.armed := rfl
@[simp] theorem dropResponses_pendingValid (s : State) : (dropResponses s).pendingValid = s.pendingValid := rfl
@[simp] theorem dropResponses_pendingCode (s : State) : (dropResponses s).pendingCode = s.pendingCode := rfl
@[simp] theorem dropResponses_input (s : State) : (dropResponses s).input = s.input := rfl
@[simp] theorem dropResponses_resp (s : State) : (dropResponses s).resp = [] := rfl
@[simp] theorem dropResponses_out (s : State) : (dropResponses s).out = s.out := rfl
@[simp] theorem dropResponses_freeReads (s : State) : (dropResponses s).freeReads = s.freeReads := rfl

/-! ### `startTrace` -/

@[simp] theorem startTrace_cfg (s : State) : (startTrace s).cfg = s.cfg := rfl
@[simp] theorem startTrace_casState (s : State) : (startTrace s).casState = s.casState := rfl
@[simp] theorem startTrace_mfState (s : State) : (startTrace s).mfState = s.mfState := rfl
@[simp] theorem startTrace_mfGroup (s : State) : (startTrace s).mfGroup = s.mfGroup := rfl
@[simp] theorem startTrace_callState (s : State) : (startTrace s).callState = s.callState := rfl
@[simp] theorem startTrace_direction (s : State) : (startTrace s).direction = s.direction := rfl
@[simp] theorem startTrace_rxValid (s : State) : (startTrace s).rxValid = s.rxValid := rfl
@[simp] theorem startTrace_rxRaw (s : State) : (startTrace s).rxRaw = s.rxRaw := rfl
@[simp] theorem startTrace_rxCode (s : State) : (startTrace s).rxCode = s.rxCode := rfl
@[simp] theorem startTrace_rxSig (s : State) : (startTrace s).rxSig = s.rxSig := rfl
@[simp] theorem startTrace_txRaw (s : State) : (startTrace s).txRaw = s.txRaw := rfl
@[simp] theorem startTrace_txCode (s : State) : (startTrace s).txCode = s.txCode := rfl
@[simp] theorem startTrace_txSig (s : State) : (startTrace s).txSig = s.txSig := rfl
@[simp] theorem startTrace_ani (s : State) : (startTrace s).ani = s.ani := rfl
@[simp] theorem startTrace_dnis (s : State) : (startTrace s).dnis = s.dnis := rfl
@[simp] theorem startTrace_stageAni (s : State) : (startTrace s).stageAni = s.stageAni := rfl
@[simp] theorem startTrace_stageDnis (s : State) : (startTrace s).stageDnis = s.stageDnis := rfl
@[simp] theorem startTrace_dnisIndex (s : State) : (startTrace s).dnisIndex = s.dnisIndex := rfl
@[simp] theorem startTrace_aniPtr (s : State) : (startTrace s).aniPtr = s.aniPtr := rfl
@[simp] theorem startTrace_mfWriteTone (s : State) : (startTrace s).mfWriteTone = s.mfWriteTone := rfl
@[simp] theorem startTrace_mfReadTone (s : State) : (startTrace s).mfReadTone = s.mfReadTone := rfl
@[simp] theorem startTrace_callerCategory (s : State) : (startTrace s).callerCategory = s.callerCategory := rfl
@[simp] theorem startTrace_aniRestricted (s : State) : (startTrace s).aniRestricted = s.aniRestricted := rfl
@[simp] theorem startTrace_answered (s : State) : (startTrace s).answered = s.answered := rfl
@[simp] theorem startTrace_categorySent (s : State) : (startTrace s).categorySent = s.categorySent := rfl
@[simp] theorem startTrace_alarm (s : State) : (startTrace s).alarm = s.alarm := rfl
@[simp] theorem startTrace_dnisDone (s : State) : (startTrace s).dnisDone = s.dnisDone := rfl
@[simp] theorem startTrace_aniDone (s : State) : (startTrace s).aniDone = s.aniDone := rfl
@[simp] theorem startTrace_acceptMode (s : State) : (startTrace s).acceptMode = s.acceptMode := rfl
@[simp] theorem startTrace_mfLive (s : State) : (startTrace s).mfLive = s.mfLive := rfl
@[simp] theorem startTrace_dtmfRxLive (s : State) : (startTrace s).dtmfRxLive = s.dtmfRxLive := rfl
@[simp] theorem startTrace_dtmfTxLive (s : State) : (startTrace s).dtmfTxLive = s.dtmfTxLive := rfl
@[simp] theorem startTrace_armed (s : State) : (startTrace s).armed = s.armed := rfl
@[simp] theorem startTrace_pendingValid (s : State) : (startTrace s).pendingValid = s.pendingValid := rfl
@[simp] theorem startTrace_pendingCode (s : State) : (startTrace s).pendingCode = s.pendingCode := rfl
@[simp] theorem startTrace_input (s : State) : (startTrace s).input = s.input := rfl
@[simp] theorem startTrace_resp (s : State) : (startTrace s).resp = s.resp := rfl
@[simp] theorem startTrace_out (s : State) : (startTrace s).out = [] := rfl
@[simp] theorem startTrace_freeReads (s : State) : (startTrace s).freeReads = s.freeReads := rfl

/-! ### `cancel` -/

@[simp] theorem cancel_cfg (t : Timer) (s : State) : (cancel t s).cfg = s.cfg := by unfold cancel; split <;> rfl
@[simp] theorem cancel_casState (t : Timer) (s : State) : (cancel t s).casState = s.casState := by unfold cancel; split <;> rfl
@[simp] theorem cancel_mfState (t : Timer) (s : State) : (cancel t s).mfState = s.mfState := by unfold cancel; split <;> rfl
@[simp] theorem cancel_mfGroup (t : Timer) (s : State) : (cancel t s).mfGroup = s.mfGroup := by unfold cancel; split <;> rfl
@[simp] theorem cancel_callState (t : Timer) (s : State) : (cancel t s).callState = s.callState := by unfold cancel; split <;> rfl
@[simp] theorem cancel_direction (t : Timer) (s : State) : (cancel t s).direction = s.direction := by unfold cancel; split <;> rfl
@[simp] theorem cancel_rxValid (t : Timer) (s : State) : (cancel t s).rxValid = s.rxValid := by unfold cancel; split <;> rfl
@[simp] theorem cancel_rxRaw (t : Timer) (s : State) : (cancel t s).rxRaw = s.rxRaw := by unfold cancel; split <;> rfl
@[simp] theorem cancel_rxCode (t : Timer) (s : State) : (cancel t s).rxCode = s.rxCode := by unfold cancel; split <;> rfl
@[simp] theorem cancel_rxSig (t : Timer) (s : State) : (cancel t s).rxSig = s.rxSig := by unfold cancel; split <;> rfl
@[simp] theorem cancel_txRaw (t : Timer) (s : State) : (cancel t s).txRaw = s.txRaw := by unfold cancel; split <;> rfl
@[simp] theorem cancel_txCode (t : Timer) (s : State) : (cancel t s).txCode = s.txCode := by unfold cancel; split <;> rfl
@[simp] theorem cancel_txSig (t : Timer) (s : State) : (cancel t s).txSig = s.txSig := by unfold cancel; split <;> rfl
@[simp] theorem cancel_ani (t : Timer) (s : State) : (cancel t s).ani = s.ani := by unfold cancel; split <;> rfl
@[simp] theorem cancel_dnis (t : Timer) (s : State) : (cancel t s).dnis = s.dnis := by unfold cancel; split <;> rfl
@[simp] theorem cancel_stageAni (t : Timer) (s : State) : (cancel t s).stageAni = s.stageAni := by unfold cancel; split <;> rfl
@[simp] theorem cancel_stageDnis (t : Timer) (s : State) : (cancel t s).stageDnis = s.stageDnis := by unfold cancel; split <;> rfl
@[simp] theorem cancel_dnisIndex (t : Timer) (s : State) : (cancel t s).dnisIndex = s.dnisIndex := by unfold cancel; split <;> rfl
@[simp] theorem cancel_aniPtr (t : Timer) (s : State) : (cancel t s).aniPtr = s.aniPtr := by unfold cancel; split <;> rfl
@[simp] theorem cancel_mfWriteTone (t : Timer) (s : State) : (cancel t s).mfWriteTone = s.mfWriteTone := by unfold cancel; split <;> rfl
@[simp] theorem cancel_mfReadTone (t : Timer) (s : State) : (cancel t s).mfReadTone = s.mfReadTone := by unfold cancel; split <;> rfl
@[simp] theorem cancel_callerCategory (t : Timer) (s : State) : (cancel t s).callerCategory = s.callerCategory := by unfold cancel; split <;> rfl
@[simp] theorem cancel_aniRestricted (t : Timer) (s : State) : (cancel t s).aniRestricted = s.aniRestricted := by unfold cancel; split <;> rfl
@[simp] theorem cancel_answered (t : Timer) (s : State) : (cancel t s).answered = s.answered := by unfold cancel; split <;> rfl
@[simp] theorem cancel_categorySent (t : Timer) (s : State) : (cancel t s).categorySent = s.categorySent := by unfold cancel; split <;> rfl
@[simp] theorem cancel_alarm (t : Timer) (s : State) : (cancel t s).alarm = s.alarm := by unfold cancel; split <;> rfl
@[simp] theorem cancel_dnisDone (t : Timer) (s : State) : (cancel t s).dnisDone = s.dnisDone := by unfold cancel; split <;> rfl
@[simp] theorem cancel_aniDone (t : Timer) (s : State) : (cancel t s).aniDone = s.aniDone := by unfold cancel; split <;> rfl
@[simp] theorem cancel_acceptMode (t : Timer) (s : State) : (cancel t s).acceptMode = s.acceptMode := by unfold cancel; split <;> rfl
@[simp] theorem cancel_mfLive (t : Timer) (s : State) : (cancel t s).mfLive = s.mfLive := by unfold cancel; split <;> rfl
@[simp] theorem cancel_dtmfRxLive (t : Timer) (s : State) : (cancel t s).dtmfRxLive = s.dtmfRxLive := by unfold cancel; split <;> rfl
@[simp] theorem cancel_dtmfTxLive (t : Timer) (s : State) : (cancel t s).dtmfTxLive = s.dtmfTxLive := by unfold cancel; split <;> rfl
@[simp] theorem cancel_pendingValid (t : Timer) (s : State) : (cancel t s).pendingValid = s.pendingValid := by unfold cancel; split <;> rfl
@[simp] theorem cancel_pendingCode (t : Timer) (s : State) : (cancel t s).pendingCode = s.pendingCode := by unfold cancel; split <;> rfl
@[simp] theorem cancel_input (t : Timer) (s : State) : (cancel t s).input = s.input := by unfold cancel; split <;> rfl
@[simp] theorem cancel_resp (t : Timer) (s : State) : (cancel t s).resp = s.resp := by unfold cancel; split <;> rfl
@[simp] theorem cancel_freeReads (t : Timer) (s : State) : (cancel t s).freeReads = s.freeReads := by unfold cancel; split <;> rfl

/-! ### `arm` -/

@[simp] theorem arm_cfg (t : Timer) (s : State) : (arm t s).cfg = s.cfg := by unfold arm; split <;> rfl
@[simp] theorem arm_casState (t : Timer) (s : State) : (arm t s).casState = s.casState := by unfold arm; split <;> rfl
@[simp] theorem arm_mfState (t : Timer) (s : State) : (arm t s).mfState = s.mfState := by unfold arm; split <;> rfl
@[simp] theorem arm_mfGroup (t : Timer) (s : State) : (arm t s).mfGroup = s.mfGroup := by unfold arm; split <;> rfl
@[simp] theorem arm_callState (t : Timer) (s : State) : (arm t s).callState = s.callState := by unfold arm; split <;> rfl
@[simp] theorem arm_direction (t : Timer) (s : State) : (arm t s).direction = s.direction := by unfold arm; split <;> rfl
@[simp] theorem arm_rxValid (t : Timer) (s : State) : (arm t s).rxValid = s.rxValid := by unfold arm; split <;> rfl
@[simp] theorem arm_rxRaw (t : Timer) (s : State) : (arm t s).rxRaw = s.rxRaw := by unfold arm; split <;> rfl
@[simp] theorem arm_rxCode (t : Timer) (s : State) : (arm t s).rxCode = s.rxCode := by unfold arm; split <;> rfl
@[simp] theorem arm_rxSig (t : Timer) (s : State) : (arm t s).rxSig = s.rxSig := by unfold arm; split <;> rfl
@[simp] theorem arm_txRaw (t : Timer) (s : State) : (arm t s).txRaw = s.txRaw := by unfold arm; split <;> rfl
@[simp] theorem arm_txCode (t : Timer) (s : State) : (arm t s).txCode = s.txCode := by unfold arm; split <;> rfl
@[simp] theorem arm_txSig (t : Timer) (s : State) : (arm t s).txSig = s.txSig := by unfold arm; split <;> rfl
@[simp] theorem arm_ani (t : Timer) (s : State) : (arm t s).ani = s.ani := by unfold arm; split <;> rfl
@[simp] theorem arm_dnis (t : Timer) (s : State) : (arm t s).dnis = s.dnis := by unfold arm; split <;> rfl
@[simp] theorem arm_stageAni (t : Timer) (s : State) : (arm t s).stageAni = s.stageAni := by unfold arm; split <;> rfl
@[simp] theorem arm_stageDnis (t : Timer) (s : State) : (arm t s).stageDnis = s.stageDnis := by unfold arm; split <;> rfl
@[simp] theorem arm_dnisIndex (t : Timer) (s : State) : (arm t s).dnisIndex = s.dnisIndex := by unfold arm; split <;> rfl
@[simp] theorem arm_aniPtr (t : Timer) (s : State) : (arm t s).aniPtr = s.aniPtr := by unfold arm; split <;> rfl
@[simp] theorem arm_mfWriteTone (t : Timer) (s : State) : (arm t s).mfWriteTone = s.mfWriteTone := by unfold arm; split <;> rfl
@[simp] theorem arm_mfReadTone (t : Timer) (s : State) : (arm t s).mfReadTone = s.mfReadTone := by unfold arm; split <;> rfl
@[simp] theorem arm_callerCategory (t : Timer) (s : State) : (arm t s).callerCategory = s.callerCategory := by unfold arm; split <;> rfl
@[simp] theorem arm_aniRestricted (t : Timer) (s : State) : (arm t s).aniRestricted = s.aniRestricted := by unfold arm; split <;> rfl
@[simp] theorem arm_answered (t : Timer) (s : State) : (arm t s).answered = s.answered := by unfold arm; split <;> rfl
@[simp] theorem arm_categorySent (t : Timer) (s : State) : (arm t s).categorySent = s.categorySent := by unfold arm; split <;> rfl
@[simp] theorem arm_alarm (t : Timer) (s : State) : (arm t s).alarm = s.alarm := by unfold arm; split <;> rfl
@[simp] theorem arm_dnisDone (t : Timer) (s : State) : (arm t s).dnisDone = s.dnisDone := by unfold arm; split <;> rfl
@[simp] theorem arm_aniDone (t : Timer) (s : State) : (arm t s).aniDone = s.aniDone := by unfold arm; split <;> rfl
@[simp] theorem arm_acceptMode (t : Timer) (s : State) : (arm t s).acceptMode = s.acceptMode := by unfold arm; split <;> rfl
@[simp] theorem arm_mfLive (t : Timer) (s : State) : (arm t s).mfLive = s.mfLive := by unfold arm; split <;> rfl
@[simp] theorem arm_dtmfRxLive (t : Timer) (s : State) : (arm t s).dtmfRxLive = s.dtmfRxLive := by unfold arm; split <;> rfl
@[simp] theorem arm_dtmfTxLive (t : Timer) (s : State) : (arm t s).dtmfTxLive = s.dtmfTxLive := by unfold arm; split <;> rfl
@[simp] theorem arm_pendingValid (t : Timer) (s : State) : (arm t s).pendingValid = s.pendingValid := by unfold arm; split <;> rfl
@[simp] theorem arm_pendingCode (t : Timer) (s : State) : (arm t s).pendingCode = s.pendingCode := by unfold arm; split <;> rfl
@[simp] theorem arm_input (t : Timer) (s : State) : (arm t s).input = s.input := by unfold arm; split <;> rfl
@[simp] theorem arm_resp (t : Timer) (s : State) : (arm t s).resp = s.resp := by unfold arm; split <;> rfl
@[simp] theorem arm_freeReads (t : Timer) (s : State) : (arm t s).freeReads = s.freeReads := by unfold arm; split <;> rfl

/-! ### `cancelEach` -/

@[simp] theorem cancelEach_cfg (ts : List Timer) (s : State) : (cancelEach ts s).cfg = s.cfg := by
  induction ts generalizing s with
  | nil => rfl
  | cons t ts ih => exact (ih _).trans (cancel_cfg t s)
@[simp] theorem cancelEach_casState (ts : List Timer) (s : State) : (cancelEach ts s).casState = s.casState := by
  induction ts generalizing s with
  | nil => rfl
  | cons t ts ih => exact (ih _).trans (cancel_casState t s)
@[simp] theorem cancelEach_mfState (ts : List Timer) (s : State) : (cancelEach ts s).mfState = s.mfState := by
  induction ts generalizing s with
  | nil => rfl
  | cons t ts ih => exact (ih _).trans (cancel_mfState t s)
@[simp] theorem cancelEach_mfGroup (ts : List Timer) (s : State) : (cancelEach ts s).mfGroup = s.mfGroup := by
  induction ts generalizing s with
  | nil => rfl
  | cons t ts ih => exact (ih _).trans (cancel_mfGroup t s)
@[simp] theorem cancelEach_callState (ts : List Timer) (s : State) : (cancelEach ts s).callState = s.callState := by
  induction ts generalizing s with
  | nil => rfl
  | cons t ts ih => exact (ih _).trans (cancel_callState t s)
@[simp] theorem cancelEach_direction (ts : List Timer) (s : State) : (cancelEach ts s).direction = s.direction := by
  induction ts generalizing s with
  | nil => rfl
  | cons t ts ih => exact (ih _).trans (cancel_direction t s)
@[simp] theorem cancelEach_rxValid (ts : List Timer) (s : State) : (cancelEach ts s).rxValid = s.rxValid := by
  induction ts generalizing s with
  | nil => rfl
  | cons t ts ih => exact (ih _).trans (cancel_rxValid t s)
@[simp] theorem cancelEach_rxRaw (ts : List Timer) (s : State) : (cancelEach ts s).rxRaw = s.rxRaw := by
  induction ts generalizing s with
  | nil => rfl
  | cons t ts ih => exact (ih _).trans (cancel_rxRaw t s)
@[simp] theorem cancelEach_rxCode (ts : List Timer) (s : State) : (cancelEach ts s).rxCode = s.rxCode := by
  induction ts generalizing s with
  | nil => rfl
  | cons t ts ih => exact (ih _).trans (cancel_rxCode t s)
@[simp] theorem cancelEach_rxSig (ts : List Timer) (s : State) : (cancelEach ts s).rxSig = s.rxSig := by
  induction ts generalizing s with
  | nil => rfl
  | cons t ts ih => exact (ih _).trans (cancel_rxSig t s)
@[simp] theorem cancelEach_txRaw (ts : List Timer) (s : State) : (cancelEach ts s).txRaw = s.txRaw := by
  induction ts generalizing s with
  | nil => rfl
  | cons t ts ih => exact (ih _).trans (cancel_txRaw t s)
@[simp] theorem cancelEach_txCode (ts : List Timer) (s : State) : (cancelEach ts s).txCode = s.txCode := by
  induction ts generalizing s with
  | nil => rfl
  | cons t ts ih => exact (ih _).trans (cancel_txCode t s)
@[simp] theorem cancelEach_txSig (ts : List Timer) (s : State) : (cancelEach ts s).txSig = s.txSig := by
  induction ts generalizing s with
  | nil => rfl
  | cons t ts ih => exact (ih _).trans (cancel_txSig t s)
@[simp] theorem cancelEach_ani (ts : List Timer) (s : State) : (cancelEach ts s).ani = s.ani := by
  induction ts generalizing s with
  | nil => rfl
  | cons t ts ih => exact (ih _).trans (cancel_ani t s)
@[simp] theorem cancelEach_dnis (ts : List Timer) (s : State) : (cancelEach ts s).dnis = s.dnis := by
  induction ts generalizing s with
  | nil => rfl
  | cons t ts ih => exact (ih _).trans (cancel_dnis t s)
@[simp] theorem cancelEach_stageAni (ts : List Timer) (s : State) : (cancelEach ts s).stageAni = s.stageAni := by
  induction ts generalizing s with
  | nil => rfl
  | cons t ts ih => exact (ih _).trans (cancel_stageAni t s)
@[simp] theorem cancelEach_stageDnis (ts : List Timer) (s : State) : (cancelEach ts s).stageDnis = s.stageDnis := by
  induction ts generalizing s with
  | nil => rfl
  | cons t ts ih => exact (ih _).trans (cancel_stageDnis t s)
@[simp] theorem cancelEach_dnisIndex (ts : List Timer) (s : State) : (cancelEach ts s).dnisIndex = s.dnisIndex := by
  induction ts generalizing s with
  | nil => rfl
  | cons t ts ih => exact (ih _).trans (cancel_dnisIndex t s)
@[simp] theorem cancelEach_aniPtr (ts : List Timer) (s : State) : (cancelEach ts s).aniPtr = s.aniPtr := by
  induction ts generalizing s with
  | nil => rfl
  | cons t ts ih => exact (ih _).trans (cancel_aniPtr t s)
@[simp] theorem cancelEach_mfWriteTone (ts : List Timer) (s : State) : (cancelEach ts s).mfWriteTone = s.mfWriteTone := by
  induction ts generalizing s with
  | nil => rfl
  | cons t ts ih => exact (ih _).trans (cancel_mfWriteTone t s)
@[simp] theorem cancelEach_mfReadTone (ts : List Timer) (s : State) : (cancelEach ts s).mfReadTone = s.mfReadTone := by
  induction ts generalizing s with
  | nil => rfl
  | cons t ts ih => exact (ih _).trans (cancel_mfReadTone t s)
@[simp] theorem cancelEach_callerCategory (ts : List Timer) (s : State) : (cancelEach ts s).callerCategory = s.callerCategory := by
  induction ts generalizing s with
  | nil => rfl
  | cons t ts ih => exact (ih _).trans (cancel_callerCategory t s)
@[simp] theorem cancelEach_aniRestricted (ts : List Timer) (s : State) : (cancelEach ts s).aniRestricted = s.aniRestricted := by
  induction ts generalizing s with
  | nil => rfl
  | cons t ts ih => exact (ih _).trans (cancel_aniRestricted t s)
@[simp] theorem cancelEach_answered (ts : List Timer) (s : State) : (cancelEach ts s).answered = s.answered := by
  induction ts generalizing s with
  | nil => rfl
  | cons t ts ih => exact (ih _).trans (cancel_answered t s)
@[simp] theorem cancelEach_categorySent (ts : List Timer) (s : State) : (cancelEach ts s).categorySent = s.categorySent := by
  induction ts generalizing s with
  | nil => rfl
  | cons t ts ih => exact (ih _).trans (cancel_categorySent t s)
@[simp] theorem cancelEach_alarm (ts : List Timer) (s : State) : (cancelEach ts s).alarm = s.alarm := by
  induction ts generalizing s with
  | nil => rfl
  | cons t ts ih => exact (ih _).trans (cancel_alarm t s)
@[simp] theorem cancelEach_dnisDone (ts : List Timer) (s : State) : (cancelEach ts s).dnisDone = s.dnisDone := by
  induction ts generalizing s with
  | nil => rfl
  | cons t ts ih => exact (ih _).trans (cancel_dnisDone t s)
@[simp] theorem cancelEach_aniDone (ts : List Timer) (s : State) : (cancelEach ts s).aniDone = s.aniDone := by
  induction ts generalizing s with
  | nil => rfl
  | cons t ts ih => exact (ih _).trans (cancel_aniDone t s)
@[simp] theorem cancelEach_acceptMode (ts : List Timer) (s : State) : (cancelEach ts s).acceptMode = s.acceptMode := by
  induction ts generalizing s with
  | nil => rfl
  | cons t ts ih => exact (ih _).trans (cancel_acceptMode t s)
@[simp] theorem cancelEach_mfLive (ts : List Timer) (s : State) : (cancelEach ts s).mfLive = s.mfLive := by
  induction ts generalizing s with
  | nil => rfl
  | cons t ts ih => exact (ih _).trans (cancel_mfLive t s)
@[simp] theorem cancelEach_dtmfRxLive (ts : List Timer) (s : State) : (cancelEach ts s).dtmfRxLive = s.dtmfRxLive := by
  induction ts generalizing s with
  | nil => rfl
  | cons t ts ih => exact (ih _).trans (cancel_dtmfRxLive t s)
@[simp] theorem cancelEach_dtmfTxLive (ts : List Timer) (s : State) : (cancelEach ts s).dtmfTxLive = s.dtmfTxLive := by
  induction ts generalizing s with
  | nil => rfl
  | cons t ts ih => exact (ih _).trans (cancel_dtmfTxLive t s)
@[simp] theorem cancelEach_pendingValid (ts : List Timer) (s : State) : (cancelEach ts s).pendingValid = s.pendingValid := by
  induction ts generalizing s with
  | nil => rfl
  | cons t ts ih => exact (ih _).trans (cancel_pendingValid t s)
@[simp] theorem cancelEach_pendingCode (ts : List Timer) (s : State) : (cancelEach ts s).pendingCode = s.pendingCode := by
  induction ts generalizing s with
  | nil => rfl
  | cons t ts ih => exact (ih _).trans (cancel_pendingCode t s)
@[simp] theorem cancelEach_input (ts : List Timer) (s : State) : (cancelEach ts s).input = s.input := by
  induction ts generalizing s with
  | nil => rfl
  | cons t ts ih => exact (ih _).trans (cancel_input t s)
@[simp] theorem cancelEach_resp (ts : List Timer) (s : State) : (cancelEach ts s).resp = s.resp := by
  induction ts generalizing s with
  | nil => rfl
  | cons t ts ih => exact (ih _).trans (cancel_resp t s)
@[simp] theorem cancelEach_freeReads (ts : List Timer) (s : State) : (cancelEach ts s).freeReads = s.freeReads := by
  induction ts generalizing s with
  | nil => rfl
  | cons t ts ih => exact (ih _).trans (cancel_freeReads t s)

/-! ### `cancelCallTimers` -/

@[simp] theorem cancelCallTimers_cfg (s : State) : (cancelCallTimers s).cfg = s.cfg := by simp [cancelCallTimers]
@[simp] theorem cancelCallTimers_casState (s : State) : (cancelCallTimers s).casState = s.casState := by simp [cancelCallTimers]
@[simp] theorem cancelCallTimers_mfState (s : State) : (cancelCallTimers s).mfState = s.mfState := by simp [cancelCallTimers]
@[simp] theorem cancelCallTimers_mfGroup (s : State) : (cancelCallTimers s).mfGroup = s.mfGroup := by simp [cancelCallTimers]
@[simp] theorem cancelCallTimers_callState (s : State) : (cancelCallTimers s).callState = s.callState := by simp [cancelCallTimers]
@[simp] theorem cancelCallTimers_direction (s : State) : (cancelCallTimers s).direction = s.direction := by simp [cancelCallTimers]
@[simp] theorem cancelCallTimers_rxValid (s : State) : (cancelCallTimers s).rxValid = s.rxValid := by simp [cancelCallTimers]
@[simp] theorem cancelCallTimers_rxRaw (s : State) : (cancelCallTimers s).rxRaw = s.rxRaw := by simp [cancelCallTimers]
@[simp] theorem cancelCallTimers_rxCode (s : State) : (cancelCallTimers s).rxCode = s.rxCode := by simp [cancelCallTimers]
@[simp] theorem cancelCallTimers_rxSig (s : State) : (cancelCallTimers s).rxSig = s.rxSig := by simp [cancelCallTimers]
@[simp] theorem cancelCallTimers_txRaw (s : State) : (cancelCallTimers s).txRaw = s.txRaw := by simp [cancelCallTimers]
@[simp] theorem cancelCallTimers_txCode (s : State) : (cancelCallTimers s).txCode = s.txCode := by simp [cancelCallTimers]
@[simp] theorem cancelCallTimers_txSig (s : State) : (cancelCallTimers s).txSig = s.txSig := by simp [cancelCallTimers]
@[simp] theorem cancelCallTimers_ani (s : State) : (cancelCallTimers s).ani = s.ani := by simp [cancelCallTimers]
@[simp] theorem cancelCallTimers_dnis (s : State) : (cancelCallTimers s).dnis = s.dnis := by simp [cancelCallTimers]
@[simp] theorem cancelCallTimers_stageAni (s : State) : (cancelCallTimers s).stageAni = s.stageAni := by simp [cancelCallTimers]
@[simp] theorem cancelCallTimers_stageDnis (s : State) : (cancelCallTimers s).stageDnis = s.stageDnis := by simp [cancelCallTimers]
@[simp] theorem cancelCallTimers_dnisIndex (s : State) : (cancelCallTimers s).dnisIndex = s.dnisIndex := by simp [cancelCallTimers]
@[simp] theorem cancelCallTimers_aniPtr (s : State) : (cancelCallTimers s).aniPtr = s.aniPtr := by simp [cancelCallTimers]
@[simp] theorem cancelCallTimers_mfWriteTone (s : State) : (cancelCallTimers s).mfWriteTone = s.mfWriteTone := by simp [cancelCallTimers]
@[simp] theorem cancelCallTimers_mfReadTone (s : State) : (cancelCallTimers s).mfReadTone = s.mfReadTone := by simp [cancelCallTimers]
@[simp] theorem cancelCallTimers_callerCategory (s : State) : (cancelCallTimers s).callerCategory = s.callerCategory := by simp [cancelCallTimers]
@[simp] theorem cancelCallTimers_aniRestricted (s : State) : (cancelCallTimers s).aniRestricted = s.aniRestricted := by simp [cancelCallTimers]
@[simp] theorem cancelCallTimers_answered (s : State) : (cancelCallTimers s).answered = s.answered := by simp [cancelCallTimers]
@[simp] theorem cancelCallTimers_categorySent (s : State) : (cancelCallTimers s).categorySent = s.categorySent := by simp [cancelCallTimers]
@[simp] theorem cancelCallTimers_alarm (s : State) : (cancelCallTimers s).alarm = s.alarm := by simp [cancelCallTimers]
@[simp] theorem cancelCallTimers_dnisDone (s : State) : (cancelCallTimers s).dnisDone = s.dnisDone := by simp [cancelCallTimers]
@[simp] theorem cancelCallTimers_aniDone (s : State) : (cancelCallTimers s).aniDone = s.aniDone := by simp [cancelCallTimers]
@[simp] theorem cancelCallTimers_acceptMode (s : State) : (cancelCallTimers s).acceptMode = s.acceptMode := by simp [cancelCallTimers]
@[simp] theorem cancelCallTimers_mfLive (s : State) : (cancelCallTimers s).mfLive = s.mfLive := by simp [cancelCallTimers]
@[simp] theorem cancelCallTimers_dtmfRxLive (s : State) : (cancelCallTimers s).dtmfRxLive = s.dtmfRxLive := by simp [cancelCallTimers]
@[simp] theorem cancelCallTimers_dtmfTxLive (s : State) : (cancelCallTimers s).dtmfTxLive = s.dtmfTxLive := by simp [cancelCallTimers]
@[simp] theorem cancelCallTimers_pendingValid (s : State) : (cancelCallTimers s).pendingValid = s.pendingValid := by simp [cancelCallTimers]
@[simp] theorem cancelCallTimers_pendingCode (s : State) : (cancelCallTimers s).pendingCode = s.pendingCode := by simp [cancelCallTimers]
@[simp] theorem cancelCallTimers_input (s : State) : (cancelCallTimers s).input = s.input := by simp [cancelCallTimers]
@[simp] theorem cancelCallTimers_resp (s : State) : (cancelCallTimers s).resp = s.resp := by simp [cancelCallTimers]
@[simp] theorem cancelCallTimers_freeReads (s : State) : (cancelCallTimers s).freeReads = s.freeReads := by simp [cancelCallTimers]

/-! ### `cancelAll` -/

@[simp] theorem cancelAll_cfg (s : State) : (cancelAll s).cfg = s.cfg := by simp [cancelAll]
@[simp] theorem cancelAll_casState (s : State) : (cancelAll s).casState = s.casState := by simp [cancelAll]
@[simp] theorem cancelAll_mfState (s : State) : (cancelAll s).mfState = s.mfState := by simp [cancelAll]
@[simp] theorem cancelAll_mfGroup (s : State) : (cancelAll s).mfGroup = s.mfGroup := by simp [cancelAll]
@[simp] theorem cancelAll_callState (s : State) : (cancelAll s).callState = s.callState := by simp [cancelAll]
@[simp] theorem cancelAll_direction (s : State) : (cancelAll s).direction = s.direction := by simp [cancelAll]
@[simp] theorem cancelAll_rxValid (s : State) : (cancelAll s).rxValid = s.rxValid := by simp [cancelAll]
@[simp] theorem cancelAll_rxRaw (s : State) : (cancelAll s).rxRaw = s.rxRaw := by simp [cancelAll]
@[simp] theorem cancelAll_rxCode (s : State) : (cancelAll s).rxCode = s.rxCode := by simp [cancelAll]
@[simp] theorem cancelAll_rxSig (s : State) : (cancelAll s).rxSig = s.rxSig := by simp [cancelAll]
@[simp] theorem cancelAll_txRaw (s : State) : (cancelAll s).txRaw = s.txRaw := by simp [cancelAll]
@[simp] theorem cancelAll_txCode (s : State) : (cancelAll s).txCode = s.txCode := by simp [cancelAll]
@[simp] theorem cancelAll_txSig (s : State) : (cancelAll s).txSig = s.txSig := by simp [cancelAll]
@[simp] theorem cancelAll_ani (s : State) : (cancelAll s).ani = s.ani := by simp [cancelAll]
@[simp] theorem cancelAll_dnis (s : State) : (cancelAll s).dnis = s.dnis := by simp [cancelAll]
@[simp] theorem cancelAll_stageAni (s : State) : (cancelAll s).stageAni = s.stageAni := by simp [cancelAll]
@[simp] theorem cancelAll_stageDnis (s : State) : (cancelAll s).stageDnis = s.stageDnis := by simp [cancelAll]
@[simp] theorem cancelAll_dnisIndex (s : State) : (cancelAll s).dnisIndex = s.dnisIndex := by simp [cancelAll]
@[simp] theorem cancelAll_aniPtr (s : State) : (cancelAll s).aniPtr = s.aniPtr := by simp [cancelAll]
@[simp] theorem cancelAll_mfWriteTone (s : State) : (cancelAll s).mfWriteTone = s.mfWriteTone := by simp [cancelAll]
@[simp] theorem cancelAll_mfReadTone (s : State) : (cancelAll s).mfReadTone = s.mfReadTone := by simp [cancelAll]
@[simp] theorem cancelAll_callerCategory (s : State) : (cancelAll s).callerCategory = s.callerCategory := by simp [cancelAll]
@[simp] theorem cancelAll_aniRestricted (s : State) : (cancelAll s).aniRestricted = s.aniRestricted := by simp [cancelAll]
@[simp] theorem cancelAll_answered (s : State) : (cancelAll s).answered = s.answered := by simp [cancelAll]
@[simp] theorem cancelAll_categorySent (s : State) : (cancelAll s).categorySent = s.categorySent := by simp [cancelAll]
@[simp] theorem cancelAll_alarm (s : State) : (cancelAll s).alarm = s.alarm := by simp [cancelAll]
@[simp] theorem cancelAll_dnisDone (s : State) : (cancelAll s).dnisDone = s.dnisDone := by simp [cancelAll]
@[simp] theorem cancelAll_aniDone (s : State) : (cancelAll s).aniDone = s.aniDone := by simp [cancelAll]
@[simp] theorem cancelAll_acceptMode (s : State) : (cancelAll s).acceptMode = s.acceptMode := by simp [cancelAll]
@[simp] theorem cancelAll_mfLive (s : State) : (cancelAll s).mfLive = s.mfLive := by simp [cancelAll]
@[simp] theorem cancelAll_dtmfRxLive (s : State) : (cancelAll s).dtmfRxLive = s.dtmfRxLive := by simp [cancelAll]
@[simp] theorem cancelAll_dtmfTxLive (s : State) : (cancelAll s).dtmfTxLive = s.dtmfTxLive := by simp [cancelAll]
@[simp] theorem cancelAll_pendingValid (s : State) : (cancelAll s).pendingValid = false := rfl
@[simp] theorem cancelAll_pendingCode (s : State) : (cancelAll s).pendingCode = s.pendingCode := by simp [cancelAll]
@[simp] theorem cancelAll_input (s : State) : (cancelAll s).input = s.input := by simp [cancelAll]
@[simp] theorem cancelAll_resp (s : State) : (cancelAll s).resp = s.resp := by simp [cancelAll]
@[simp] theorem cancelAll_freeReads (s : State) : (cancelAll s).freeReads = s.freeReads := by simp [cancelAll]

/-! ### `resetBaseline` -/

@[simp] theorem resetBaseline_cfg (s : State) : (resetBaseline s).cfg = s.cfg := by simp [resetBaseline]
@[simp] theorem resetBaseline_casState (s : State) : (resetBaseline s).casState = .idle := rfl
@[simp] theorem resetBaseline_mfState (s : State) : (resetBaseline s).mfState = .off := rfl
@[simp] theorem resetBaseline_mfGroup (s : State) : (resetBaseline s).mfGroup = .noGroup := rfl
@[simp] theorem resetBaseline_callState (s : State) : (resetBaseline s).callState = .idle := rfl
@[simp] theorem resetBaseline_direction (s : State) : (resetBaseline s).direction = .stopped := rfl
@[simp] theorem resetBaseline_rxValid (s : State) : (resetBaseline s).rxValid = s.rxValid := by simp [resetBaseline]
@[simp] theorem resetBaseline_rxRaw (s : State) : (resetBaseline s).rxRaw = s.rxRaw := by simp [resetBaseline]
@[simp] theorem resetBaseline_rxCode (s : State) : (resetBaseline s).rxCode = s.rxCode := by simp [resetBaseline]
@[simp] theorem resetBaseline_rxSig (s : State) : (resetBaseline s).rxSig = s.rxSig := by simp [resetBaseline]
@[simp] theorem resetBaseline_txRaw (s : State) : (resetBaseline s).txRaw = s.txRaw := by simp [resetBaseline]
@[simp] theorem resetBaseline_txCode (s : State) : (resetBaseline s).txCode = s.txCode := by simp [resetBaseline]
@[simp] theorem resetBaseline_txSig (s : State) : (resetBaseline s).txSig = s.txSig := by simp [resetBaseline]
@[simp] theorem resetBaseline_ani (s : State) : (resetBaseline s).ani = [] := rfl
@[simp] theorem resetBaseline_dnis (s : State) : (resetBaseline s).dnis = [] := rfl
@[simp] theorem resetBaseline_stageAni (s : State) : (resetBaseline s).stageAni = s.stageAni := by simp [resetBaseline]
@[simp] theorem resetBaseline_stageDnis (s : State) : (resetBaseline s).stageDnis = s.stageDnis := by simp [resetBaseline]
@[simp] theorem resetBaseline_dnisIndex (s : State) : (resetBaseline s).dnisIndex = 0 := rfl
@[simp] theorem resetBaseline_aniPtr (s : State) : (resetBaseline s).aniPtr = 0 := rfl
@[simp] theorem resetBaseline_mfWriteTone (s : State) : (resetBaseline s).mfWriteTone = 0 := rfl
@[simp] theorem resetBaseline_mfReadTone (s : State) : (resetBaseline s).mfReadTone = 0 := rfl
@[simp] theorem resetBaseline_callerCategory (s : State) : (resetBaseline s).callerCategory = 0 := rfl
@[simp] theorem resetBaseline_aniRestricted (s : State) : (resetBaseline s).aniRestricted = false := rfl
@[simp] theorem resetBaseline_answered (s : State) : (resetBaseline s).answered = false := rfl
@[simp] theorem resetBaseline_categorySent (s : State) : (resetBaseline s).categorySent = false := rfl
@[simp] theorem resetBaseline_alarm (s : State) : (resetBaseline s).alarm = s.alarm := by simp [resetBaseline]
@[simp] theorem resetBaseline_dnisDone (s : State) : (resetBaseline s).dnisDone = false := rfl
@[simp] theorem resetBaseline_aniDone (s : State) : (resetBaseline s).aniDone = false := rfl
@[simp] theorem resetBaseline_acceptMode (s : State) : (resetBaseline s).acceptMode = .charge := rfl
@[simp] theorem resetBaseline_mfLive (s : State) : (resetBaseline s).mfLive = false := rfl
@[simp] theorem resetBaseline_dtmfRxLive (s : State) : (resetBaseline s).dtmfRxLive = false := rfl
@[simp] theorem resetBaseline_dtmfTxLive (s : State) : (resetBaseline s).dtmfTxLive = false := rfl
@[simp] theorem resetBaseline_pendingValid (s : State) : (resetBaseline s).pendingValid = false := rfl
@[simp] theorem resetBaseline_pendingCode (s : State) : (resetBaseline s).pendingCode = s.pendingCode := by simp [resetBaseline]
@[simp] theorem resetBaseline_input (s : State) : (resetBaseline s).input = s.input := by simp [resetBaseline]
@[simp] theorem resetBaseline_resp (s : State) : (resetBaseline s).resp = s.resp := by simp [resetBaseline]
@[simp] theorem resetBaseline_freeReads (s : State) : (resetBaseline s).freeReads = s.freeReads := by simp [resetBaseline]

end Sys2Proof.Machine
end

