-- ==== Sys2Proof/Laws/Act.lean ====
section
/-! SUPPORT. How an `Act` runs, one lemma for each piece of the language the rules are written in, and the composition of
properties that every piece keeps. -/

namespace Sys2Proof.Machine

/-! ### Equations -/

theorem bind_apply {α β : Type} (m : Act α) (f : α → Act β) (s : State) :
    (m >>= f) s = match m s with
      | .ok a s' => f a s'
      | .error e s' => .error e s' := by
  show EStateM.bind m f s = _
  unfold EStateM.bind
  split <;> simp_all

@[simp] theorem pure_apply {α : Type} (a : α) (s : State) : (pure a : Act α) s = .ok a s := rfl

@[simp] theorem see_apply (s : State) : see s = .ok s s := rfl

@[simp] theorem upd_apply (f : State → State) (s : State) : upd f s = .ok () (f s) := rfl

@[simp] theorem finish_apply {α : Type} (s : State) : (finish : Act α) s = .error .operationEnded s := rfl

@[simp] theorem see_bind {β : Type} (f : State → Act β) (s : State) : (see >>= f) s = f s s := rfl

@[simp] theorem upd_bind {β : Type} (g : State → State) (f : Unit → Act β) (s : State) : (upd g >>= f) s = f () (g s) := rfl

@[simp] theorem finish_bind {α β : Type} (f : α → Act β) (s : State) :
    ((finish : Act α) >>= f) s = .error .operationEnded s := rfl

@[simp] theorem ite_bind {α β : Type} (c : Prop) [Decidable c] (m n : Act α) (f : α → Act β) :
    ((if c then m else n) >>= f) = if c then m >>= f else n >>= f := by split <;> rfl

theorem act_ite_apply {α : Type} (c : Prop) [Decidable c] (m n : Act α) (s : State) :
    (if c then m else n) s = if c then m s else n s := by split <;> rfl

@[simp] theorem onlyIf_true (m : Act Unit) : onlyIf true m = m := rfl

@[simp] theorem onlyIf_false (m : Act Unit) : onlyIf false m = pure () := rfl

@[simp] theorem status_apply (st : Status) (s : State) : status st s = .ok () (output (.status st) s) := rfl

@[simp] theorem status_bind {β : Type} (st : Status) (f : Unit → Act β) (s : State) :
    (status st >>= f) s = f () (output (.status st) s) := rfl

/-- An operation that reaches its end. -/
theorem bind_ok {α β : Type} {m : Act α} {f : α → Act β} {a : α} {s s' : State} (h : m s = .ok a s') :
    (m >>= f) s = f a s' := by rw [bind_apply, h]

/-- An operation that was ended inside. -/
theorem bind_error {α β : Type} {m : Act α} {f : α → Act β} {e : Halt} {s s' : State} (h : m s = .error e s') :
    (m >>= f) s = .error e s' := by rw [bind_apply, h]

@[simp] theorem outcomeOf_ok (s : State) : outcomeOf (.ok () s) = .next (dropResponses s) := rfl

@[simp] theorem outcomeOf_error (e : Halt) (s : State) : outcomeOf (.error e s) = .next (dropResponses s) := rfl

/-- Every outcome of a top-level operation is a next state. -/
theorem outcomeOf_next (r : EStateM.Result Halt State Unit) : ∃ t, outcomeOf r = .next t := by
  cases r <;> exact ⟨_, rfl⟩

/-! ### Events without re-entry -/

theorem noReentry_nil {s : State} (h : s.resp = []) : NoReentry s := by simp [NoReentry, h]

theorem NoReentry.of_resp {s t : State} (h : NoReentry s) (e : t.resp = s.resp) : NoReentry t := by
  simpa [NoReentry, e] using h

theorem NoReentry.of_tail {s t : State} (h : NoReentry s) (e : t.resp = s.resp.tail) : NoReentry t := fun r hr =>
  h r (List.mem_of_mem_tail (e ▸ hr))

theorem NoReentry.head {s : State} (h : NoReentry s) : respHasOp (s.resp.headD 0) = false := by
  cases hr : s.resp with
  | nil => rfl
  | cons r rs => exact h r (by simp [hr])

theorem nextResponse_apply (s : State) :
    nextResponse s = .ok (s.resp.headD 0) { s with resp := s.resp.tail } := by
  unfold nextResponse
  split <;> rename_i h <;> simp [h]
  cases s
  simp_all

/-- An event that the application answers without re-entering: one response is read (R316). -/
theorem emit_noReentry (x : Ctx) (ev : Event) {s : State} (h : respHasOp (s.resp.headD 0) = false) :
    emit x ev s = .ok (s.resp.headD 0) { s with out := s.out ++ [.evt ev], resp := s.resp.tail } := by
  unfold emit
  simp only [bind_apply, upd_apply, nextResponse_apply, output, h, onlyIf_false, pure_apply]

theorem notify_noReentry (x : Ctx) (ev : Event) {s : State} (h : respHasOp (s.resp.headD 0) = false) :
    notify x ev s = .ok () { s with out := s.out ++ [.evt ev], resp := s.resp.tail } := by
  unfold notify
  simp only [bind_apply, emit_noReentry x ev h, pure_apply]

theorem emitGuarded_noReentry (x : Ctx) (ev : Event) {s : State} (h : respHasOp (s.resp.headD 0) = false) :
    emitGuarded x ev s = .ok (some (s.resp.headD 0)) { s with out := s.out ++ [.evt ev], resp := s.resp.tail } := by
  unfold emitGuarded
  simp only [bind_apply, see_apply, emit_noReentry x ev h, snapshot, if_true, pure_apply]

/-! ### I/O -/

theorem txSignal_ok (x : Ctx) (sig : Signal) (s : State) (h : x.env.werr = false) :
    txSignal x sig s = .ok () (writeLine sig s) := by simp [txSignal, h]

theorem ioError_noReentry {α : Type} (x : Ctx) (what : OsError) {s : State}
    (h : respHasOp (s.resp.headD 0) = false) :
    (ioError x what : Act α) s =
      .error .operationEnded
        { s with out := s.out ++ [.evt (.osError what)] ++ [.status .ioError], resp := s.resp.tail } := by
  unfold ioError
  simp only [bind_apply, notify_noReentry x _ h, status_apply, finish_apply, output]

theorem txSignal_failed (x : Ctx) (sig : Signal) {s : State} (hw : x.env.werr = true)
    (h : respHasOp (s.resp.headD 0) = false) :
    txSignal x sig s =
      .error .operationEnded
        { s with out := s.out ++ [.evt (.osError .lineWrite)] ++ [.status .ioError], resp := s.resp.tail } := by
  simp only [txSignal, hw, if_true, ioError_noReentry x _ h]

theorem getLine_ok (x : Ctx) (s : State) (h : x.env.lerr = false) : getLine x s = .ok x.env.line s := by
  simp [getLine, h]

/-- `SetTone` that can write: the trace and the tone register (R183). -/
theorem setTone_ok (x : Ctx) (t : Tone) (s : State) (h : x.env.werr = false ∨ t = 0 ∨ t = s.mfWriteTone) :
    setTone x t s = .ok () { s with out := s.out ++ toneActions t s, mfWriteTone := t } := by
  unfold setTone toneActions
  rw [see_bind]
  by_cases h1 : t = s.mfWriteTone
  · rw [if_pos h1, if_pos h1, h1, List.append_nil]
    rfl
  · rw [if_neg h1, if_neg h1]
    by_cases h2 : t = 0
    · rw [if_pos h2, if_pos h2, h2]
      rfl
    · have h3 : x.env.werr = false := by tauto
      rw [if_neg h2, if_neg h2, h3]
      simp [putTone]

/-! ### Properties that every piece keeps -/

/-- The state a piece leads to, whether it goes on or ends the operation. -/
def lastState {α : Type} : EStateM.Result Halt State α → State
  | .ok _ s => s
  | .error _ s => s

/-- Whether it goes on or ends the operation, `m` leads from `P` to `P`. -/
def Keeps {α : Type} (P : State → Prop) (m : Act α) : Prop := ∀ s, P s → P (lastState (m s))

section Keeping
variable {α β : Type} {P : State → Prop}

theorem Keeps.pure (a : α) : Keeps P (Pure.pure a : Act α) := fun _ h => h

theorem Keeps.see : Keeps P Machine.see := fun _ h => h

theorem Keeps.finish : Keeps P (Machine.finish : Act α) := fun _ h => h

theorem Keeps.upd {f : State → State} (h : ∀ s, P s → P (f s)) : Keeps P (Machine.upd f) := h

theorem Keeps.bind {m : Act α} {f : α → Act β} (hm : Keeps P m) (hf : ∀ a, Keeps P (f a)) : Keeps P (m >>= f) := by
  intro s hs
  have h := hm s hs
  rw [bind_apply]
  cases heq : m s with
  | ok a s' => exact hf a s' (by simpa [heq, lastState] using h)
  | error e s' => simpa [heq, lastState] using h

/-- What `see` hands on is the state itself, so the rest may use what holds of it. -/
theorem Keeps.see_bind {f : State → Act β} (hf : ∀ s, P s → P (lastState (f s s))) : Keeps P (Machine.see >>= f) := hf

theorem Keeps.ite {c : Prop} [Decidable c] {m n : Act α} (hm : c → Keeps P m) (hn : ¬ c → Keeps P n) :
    Keeps P (if c then m else n) := by
  split
  · exact hm ‹_›
  · exact hn ‹_›

theorem Keeps.onlyIf {c : Bool} {m : Act Unit} (hm : Keeps P m) : Keeps P (Machine.onlyIf c m) := by
  cases c
  · exact Keeps.pure ()
  · exact hm

theorem Keeps.nextResponse (h : ∀ s rs, P s → P { s with resp := rs }) : Keeps P Machine.nextResponse := by
  intro s hs
  rw [nextResponse_apply]
  exact h s _ hs

/-- An event keeps what a longer trace, a shorter response stream and the nested operation keep (R316). -/
theorem Keeps.emit {x : Ctx} (ev : Event) (hout : ∀ s, P s → P (output (.evt ev) s))
    (hresp : ∀ s rs, P s → P { s with resp := rs }) (hnest : ∀ w, Keeps P (x.reenter w)) :
    Keeps P (Machine.emit x ev) :=
  Keeps.bind (Keeps.upd hout) fun _ =>
    Keeps.bind (Keeps.nextResponse hresp) fun _ => Keeps.bind (Keeps.onlyIf (hnest _)) fun _ => Keeps.pure _

/-- A top-level operation keeps what its rule keeps, if the start and the end of an operation keep it. -/
theorem Keeps.runTop {env : Env} {op : Ctx → Act Unit} (hop : Keeps P (op (topCtx env)))
    (hstart : ∀ s, P s → P (startTrace s)) (hend : ∀ s, P s → P (dropResponses s)) {s t : State} (hs : P s)
    (h : runTop env op s = .next t) : P t := by
  have hlast := hend _ (hop _ (hstart s hs))
  unfold Machine.runTop at h
  cases heq : op (topCtx env) (startTrace s) with
  | ok a s' => rw [heq] at h hlast; cases h; exact hlast
  | error e s' => rw [heq] at h hlast; cases h; exact hlast

end Keeping

end Sys2Proof.Machine
end

