-- ==== Sys2Proof/Laws/Ops.lean ====
section
/-! SUPPORT. For each shared operation one lemma that says once everything it can do. -/

namespace Sys2Proof.Machine

/-! ### Line codes -/

/-- What is transmitted for a signal is read back as its code (R41, R115). -/
theorem maskCode_txRawOf (c : Cfg) (sig : Signal) : maskCode c (txRawOf c sig) = code c sig := by
  unfold maskCode txRawOf code maskCode
  apply BitVec.eq_of_getLsbD_eq
  intro i hi
  simp only [BitVec.getLsbD_and, BitVec.getLsbD_or, BitVec.getLsbD_not]
  cases (casCode c sig).getLsbD i <;> cases c.r2Mask.getLsbD i <;> simp

theorem writeLine_eq (sig : Signal) (s : State) :
    writeLine sig s = { transmitted sig s with out := s.out ++ lineActions s.cfg sig } := by
  unfold writeLine transmitted lineActions
  rw [maskCode_txRawOf]

/-! ### Timers -/

theorem timer_index_lt (t : Timer) : t.index < 12 := by cases t <;> decide

theorem timer_index_inj {t u : Timer} (h : t.index = u.index) : t = u := by
  cases t <;> cases u <;> first | rfl | (exact absurd h (by decide))

@[simp] theorem timerBit_getLsbD (t u : Timer) : (timerBit t).getLsbD u.index = decide (u = t) := by
  cases t <;> cases u <;> decide

theorem timerBit_getLsbD_of_lt (t : Timer) {i : Nat} (hi : i < 12) : (timerBit t).getLsbD i = decide (i = t.index) := by
  cases t <;> interval_cases i <;> decide

theorem isArmed_disarm (t u : Timer) (s : State) : isArmed u (disarm t s) = (isArmed u s && !decide (u = t)) := by
  have h := timer_index_lt u
  rw [isArmed, disarm_armed, BitVec.getLsbD_and, BitVec.getLsbD_not, timerBit_getLsbD, isArmed]
  simp [h]

theorem isArmed_startTimer (t u : Timer) (s : State) : isArmed u (startTimer t s) = (isArmed u s || decide (u = t)) := by
  rw [isArmed, startTimer_armed, BitVec.getLsbD_or, timerBit_getLsbD, isArmed]

theorem withoutTimers_nil (armed : BitVec 12) : withoutTimers [] armed = armed := rfl

theorem withoutTimers_cons (t : Timer) (ts : List Timer) (armed : BitVec 12) :
    withoutTimers (t :: ts) armed = withoutTimers ts (armed &&& ~~~timerBit t) := rfl

theorem withoutTimers_single (t : Timer) (armed : BitVec 12) : withoutTimers [t] armed = armed &&& ~~~timerBit t := rfl

theorem withoutTimers_all (armed : BitVec 12) : withoutTimers allTimers armed = 0 := by
  simp only [withoutTimers, allTimers, callTimers, List.cons_append, List.nil_append, List.foldl]
  apply BitVec.eq_of_getLsbD_eq
  intro i hi
  interval_cases i <;> simp [timerBit, Timer.index]

/-- A bit that is clear stays as it is. -/
theorem withoutTimers_of_not_armed {t : Timer} {s : State} (h : isArmed t s = false) :
    withoutTimers [t] s.armed = s.armed := by
  rw [withoutTimers_single]
  apply BitVec.eq_of_getLsbD_eq
  intro i hi
  rw [BitVec.getLsbD_and, BitVec.getLsbD_not, timerBit_getLsbD_of_lt t hi]
  by_cases e : i = t.index
  · rw [isArmed] at h
    rw [e, h, Bool.false_and]
  · simp [hi, e]

/-- `Cancel(t)`: the bit is clear, with a TMR_CANCEL if it was set (R242). -/
theorem cancel_eq (t : Timer) (s : State) :
    cancel t s = { s with armed := withoutTimers [t] s.armed, out := s.out ++ cancelsOf [t] s } := by
  unfold cancel
  cases h : isArmed t s
  · have e : s.out ++ cancelsOf [t] s = s.out := by simp [cancelsOf, h]
    rw [withoutTimers_of_not_armed h, e]
    rfl
  · have e : s.out ++ cancelsOf [t] s = s.out ++ [.tmrCancel t] := by simp [cancelsOf, h]
    rw [e]
    rfl

/-- `Arm(t)`: the bit is set, with a TMR_CANCEL of a live instance before the TMR_ARM (R241). -/
theorem arm_eq (t : Timer) (s : State) :
    arm t s = { s with armed := s.armed ||| timerBit t, out := s.out ++ armActions t s } := by
  unfold arm armActions
  cases h : isArmed t s
  · have e : cancelsOf [t] s = [] := by simp [cancelsOf, h]
    rw [e]
    rfl
  · have e : cancelsOf [t] s = [.tmrCancel t] := by simp [cancelsOf, h]
    rw [e, ← List.append_assoc]
    rfl

theorem cancelsOf_cons (t : Timer) (ts : List Timer) (s : State) :
    cancelsOf (t :: ts) s = cancelsOf [t] s ++ cancelsOf ts s := by
  cases h : isArmed t s <;> simp [cancelsOf, h]

theorem cancelsOf_congr {ts : List Timer} {s s' : State} (h : ∀ t ∈ ts, isArmed t s = isArmed t s') :
    cancelsOf ts s = cancelsOf ts s' := by
  unfold cancelsOf
  rw [List.filter_congr h]

/-- Several `Cancel`s of different timers, in order (R242). -/
theorem cancelEach_eq (ts : List Timer) (hd : ts.Nodup) (s : State) :
    cancelEach ts s = { s with armed := withoutTimers ts s.armed, out := s.out ++ cancelsOf ts s } := by
  induction ts generalizing s with
  | nil => simp [cancelEach, withoutTimers, cancelsOf]
  | cons t ts ih =>
    obtain ⟨hnot, hd⟩ := List.nodup_cons.mp hd
    have e : cancelsOf ts (cancel t s) = cancelsOf ts s := by
      apply cancelsOf_congr
      intro u hu
      have hne : u ≠ t := fun e => hnot (e ▸ hu)
      unfold cancel
      split
      · rw [isArmed_disarm]
        simp [hne, isArmed]
      · rfl
    rw [cancelEach, ih hd, e, withoutTimers_cons, cancelsOf_cons t ts s, ← List.append_assoc]
    rw [cancel_eq]
    rfl

/-- `CancelCallTimers()` (R243). -/
theorem cancelCallTimers_eq (s : State) :
    cancelCallTimers s =
      { s with armed := withoutTimers callTimers s.armed, out := s.out ++ cancelsOf callTimers s } :=
  cancelEach_eq _ (by decide) s

theorem cancelEach_append (ts us : List Timer) (s : State) :
    cancelEach (ts ++ us) s = cancelEach us (cancelEach ts s) := by
  induction ts generalizing s with
  | nil => rfl
  | cons t ts ih => exact ih _

/-- `CancelAll()` (R243). -/
theorem cancelAll_eq (s : State) :
    cancelAll s = { s with armed := 0, pendingValid := false, out := s.out ++ cancelsOf allTimers s } := by
  have h : cancel .casPersistenceCheck (cancelCallTimers s) = cancelEach allTimers s :=
    (cancelEach_append callTimers [.casPersistenceCheck] s).symm
  rw [cancelAll, h, cancelEach_eq _ (by decide), withoutTimers_all]
  rfl

/-! ### Engines and the baseline -/

theorem mfRelease_eq (s : State) :
    mfRelease s =
      { s with
        out := s.out ++ releaseActions s, mfLive := false, dtmfRxLive := false, dtmfTxLive := false,
        mfWriteTone := 0, mfReadTone := 0 } := rfl

/-- `ResetBaseline()` (R362). -/
theorem resetBaseline_eq (s : State) : resetBaseline s = { baselineOf s with out := s.out ++ baselineActions s } := by
  have e : (cancelAll s).out = s.out ++ cancelsOf allTimers s := by rw [cancelAll_eq]
  have r : releaseActions (cancelAll s) = releaseActions s := by simp [releaseActions]
  unfold baselineActions
  rw [← List.append_assoc, ← e, ← r]
  unfold resetBaseline
  rw [cancelAll_eq]
  rfl

theorem releaseActions_congr {s t : State} (h1 : t.mfLive = s.mfLive) (h2 : t.mfWriteTone = s.mfWriteTone) :
    releaseActions t = releaseActions s := by unfold releaseActions; rw [h1, h2]

theorem cancelsOf_armed {s t : State} (ts : List Timer) (h : t.armed = s.armed) : cancelsOf ts t = cancelsOf ts s :=
  cancelsOf_congr fun u _ => by unfold isArmed; rw [h]

theorem baselineActions_congr {s t : State} (h1 : t.mfLive = s.mfLive) (h2 : t.mfWriteTone = s.mfWriteTone)
    (h3 : t.armed = s.armed) : baselineActions t = baselineActions s := by
  unfold baselineActions; rw [releaseActions_congr h1 h2, cancelsOf_armed _ h3]

/-! ### The error path -/

/-- The error path after the line is dealt with: the baseline and the event (R331). -/
theorem errorTail_noReentry (x : Ctx) (kind : ErrorKind) {t : State} (h : respHasOp (t.resp.headD 0) = false) :
    (do upd resetBaseline; notify x (.protocolError kind)) t =
      .ok () { baselineOf t with
               out := t.out ++ baselineActions t ++ [.evt (.protocolError kind)], resp := t.resp.tail } := by
  rw [upd_bind, notify_noReentry x _ (by rw [resetBaseline_resp]; exact h), resetBaseline_eq]
  rfl

/-- The error path of an application that does not re-enter (R331): the operation may go on from the baseline (R297). -/
theorem errorPath_noReentry (x : Ctx) (kind : ErrorKind) {s : State} (h : NoReentry s) :
    errorPath x kind s =
      .ok () { baselineOf (if x.env.werr then s else transmitted .idle s) with
               out := errorActions kind x.env s.out s, resp := s.resp.drop (errorResponses x.env) } := by
  unfold errorPath errorIdle errorActions errorResponses
  rw [upd_bind]
  cases x.env.werr
  · rw [if_neg Bool.false_ne_true, upd_bind,
      errorTail_noReentry x kind (t := writeLine .idle (output (.logSnap kind) s)) h.head, writeLine_eq,
      baselineActions_congr (s := s) rfl rfl rfl]
    simp only [output, List.append_assoc, if_neg Bool.false_ne_true, List.drop_one]
    rfl
  · have e : s.resp.drop 2 = s.resp.tail.tail := by rw [← List.drop_one, ← List.drop_one, List.drop_drop]
    rw [if_pos rfl, bind_ok (notify_noReentry x _ (s := output (.logSnap kind) s) h.head),
      errorTail_noReentry x kind (t := { output (.logSnap kind) s with
          out := (output (.logSnap kind) s).out ++ [.evt (.osError .lineWrite)]
          resp := (output (.logSnap kind) s).resp.tail })
        (NoReentry.of_tail (t := { s with resp := s.resp.tail }) h rfl).head,
      baselineActions_congr (s := s) rfl rfl rfl]
    simp only [output, List.append_assoc, if_true, e]
    rfl

/-- A protocol error ends the operation with STATUS Ok, the channel at the baseline (R331). -/
theorem protocolError_noReentry {α : Type} (x : Ctx) (kind : ErrorKind) {s : State} (h : NoReentry s) :
    (protocolError x kind : Act α) s =
      .error .operationEnded
        { errorEnded kind x.env s.out s with resp := s.resp.drop (errorResponses x.env) } := by
  unfold protocolError
  rw [bind_ok (errorPath_noReentry x kind h), status_bind, finish_apply]
  rfl

/-! ### The alarm -/

/-- The freeze of an alarm (R296). -/
theorem freeze_eq (s : State) :
    freeze s =
      { s with
        alarm := true, armed := 0, pendingValid := false, mfWriteTone := 0
        out := s.out ++ cancelsOf allTimers s ++ (if s.mfWriteTone = 0 then [] else [.tone 0]) } := by
  have e : cancelsOf allTimers { s with alarm := true } = cancelsOf allTimers s := cancelsOf_armed _ rfl
  unfold freeze muteTone putTone
  rw [cancelAll_eq, e]
  by_cases h : s.mfWriteTone = 0
  · simp only [h, if_true, List.append_nil]
  · simp only [h, if_false, List.append_assoc]

/-! ### Digit buffers -/

/-- A digit below the length is read as it stands (R72, R73, R79). -/
theorem readDigit_lt {buffer : List Digit} {i : Nat} (h : i < buffer.length) (s : State) :
    readDigit buffer i s = .ok buffer[i] s := by
  unfold readDigit
  rw [List.getElem?_eq_getElem h]

/-- A cell beyond the length gives a free value, a new one for each read (U11). -/
theorem readDigit_ge {buffer : List Digit} {i : Nat} (h : buffer.length ≤ i) (s : State) :
    readDigit buffer i s = .ok (Config.unwrittenDigit s.freeReads) { s with freeReads := s.freeReads + 1 } := by
  unfold readDigit
  rw [List.getElem?_eq_none h]

end Sys2Proof.Machine

namespace Sys2Proof

/-! ### The operation word -/

/-- The bits of a packed word (R91). -/
theorem packWord_getLsbD (f : OpFields) (i : Nat) :
    (packWord f).getLsbD i =
      if i < 4 then f.line.getLsbD i
      else if i < 5 then (BitVec.ofBool f.lerr).getLsbD (i - 4)
      else if i < 6 then (BitVec.ofBool f.werr).getLsbD (i - 5)
      else if i < 7 then (BitVec.ofBool f.ierr).getLsbD (i - 6)
      else if i < 11 then f.arg.getLsbD (i - 7)
      else f.op.getLsbD (i - 11) := by
  show BitVec.getLsbD (w := 5 + (4 + (1 + (1 + (1 + 4))))) (f.op ++ (f.arg ++ (BitVec.ofBool f.ierr ++
    (BitVec.ofBool f.werr ++ (BitVec.ofBool f.lerr ++ f.line))))) i = _
  simp only [BitVec.getLsbD_append]
  split_ifs <;> first | rfl | (exfalso; omega)

/-- The fields of a packed word are the fields (R91). -/
theorem unpackWord_packWord (f : OpFields) : unpackWord (packWord f) = f := by
  obtain ⟨op, arg, ierr, werr, lerr, line⟩ := f
  unfold unpackWord
  rw [OpFields.mk.injEq]
  refine ⟨?_, ?_, ?_, ?_, ?_, ?_⟩ <;> first
    | (apply BitVec.eq_of_getLsbD_eq; intro i hi
       rw [BitVec.getLsbD_extractLsb', packWord_getLsbD]; interval_cases i <;> simp)
    | (rw [packWord_getLsbD]; simp)

/-- Packing the fields of a word gives the word back (R91: there is no bit outside a field). -/
theorem packWord_unpackWord (w : OpBits) : packWord (unpackWord w) = w := by
  apply BitVec.eq_of_getLsbD_eq
  intro i hi
  rw [packWord_getLsbD]
  interval_cases i <;> simp [unpackWord]

end Sys2Proof
end

