-- ==== Sys2Proof/Laws/PerInstr.lean ====
section
/-! SUPPORT. The per-instruction family `FieldsRoundTrip`: the fields written for a well-formed operation are read back as
that operation (spec/30_encoding.md R92, R93). -/

namespace Sys2Proof.Laws

/-- The fields of a well-formed operation decode to it. -/
def FieldsRoundTrip.Statement (i : Instr) : Prop := i.wf = true → decodeFields (encodeFields i) = .instr i

theorem FieldsRoundTrip.line (env : Env) : FieldsRoundTrip.Statement (.line env) := fun _ => rfl

theorem FieldsRoundTrip.toneOn (tone : Tone) (env : Env) : FieldsRoundTrip.Statement (.toneOn tone env) := by
  intro h
  have h1 : toneWellFormed tone = true := h
  show decodeToneOn tone env = _
  rw [decodeToneOn, if_pos h1]

theorem FieldsRoundTrip.toneOff (env : Env) : FieldsRoundTrip.Statement (.toneOff env) := fun _ => rfl

theorem FieldsRoundTrip.dtmfDigit (digit : Digit) (env : Env) : FieldsRoundTrip.Statement (.dtmfDigit digit env) := fun _ => rfl

theorem FieldsRoundTrip.timerExpSeize (env : Env) : FieldsRoundTrip.Statement (.timerExpSeize env) := fun _ => rfl

theorem FieldsRoundTrip.timerExpSeizePersist (env : Env) : FieldsRoundTrip.Statement (.timerExpSeizePersist env) := fun _ => rfl

theorem FieldsRoundTrip.timerExpAnswer (env : Env) : FieldsRoundTrip.Statement (.timerExpAnswer env) := fun _ => rfl

theorem FieldsRoundTrip.timerExpAnswerDelay (env : Env) : FieldsRoundTrip.Statement (.timerExpAnswerDelay env) := fun _ => rfl

theorem FieldsRoundTrip.timerExpDoubleAnswer (env : Env) : FieldsRoundTrip.Statement (.timerExpDoubleAnswer env) := fun _ => rfl

theorem FieldsRoundTrip.timerExpSetCallDown (env : Env) : FieldsRoundTrip.Statement (.timerExpSetCallDown env) := fun _ => rfl

theorem FieldsRoundTrip.timerExpMeteringPulse (env : Env) : FieldsRoundTrip.Statement (.timerExpMeteringPulse env) := fun _ => rfl

theorem FieldsRoundTrip.timerExpMfBackCycle (env : Env) : FieldsRoundTrip.Statement (.timerExpMfBackCycle env) := fun _ => rfl

theorem FieldsRoundTrip.timerExpMfBackResumeCycle (env : Env) : FieldsRoundTrip.Statement (.timerExpMfBackResumeCycle env) := fun _ => rfl

theorem FieldsRoundTrip.timerExpMfFwdSafety (env : Env) : FieldsRoundTrip.Statement (.timerExpMfFwdSafety env) := fun _ => rfl

theorem FieldsRoundTrip.timerExpDtmfStartDial (env : Env) : FieldsRoundTrip.Statement (.timerExpDtmfStartDial env) := fun _ => rfl

theorem FieldsRoundTrip.timerExpCasPersistenceCheck (env : Env) : FieldsRoundTrip.Statement (.timerExpCasPersistenceCheck env) := fun _ => rfl

theorem FieldsRoundTrip.makeCall (category : Category) (restricted : Bool) (env : Env) : FieldsRoundTrip.Statement (.makeCall category restricted env) := by
  intro _
  have hc : categoryOfNumber
      ((BitVec.ofNat 3 category.number ++ BitVec.ofBool restricted).extractLsb' 1 3).toNat = some category := by
    cases category <;> cases restricted <;> decide
  have hr : (BitVec.ofNat 3 category.number ++ BitVec.ofBool restricted).getLsbD 0 = restricted := by
    cases category <;> cases restricted <;> decide
  show decodeMakeCall (BitVec.ofNat 3 category.number ++ BitVec.ofBool restricted) env = _
  unfold decodeMakeCall
  rw [hc]
  show Decoded.instr (.makeCall category _ env) = _
  rw [hr]

theorem FieldsRoundTrip.acceptCall (mode : Mode) (env : Env) : FieldsRoundTrip.Statement (.acceptCall mode env) := by
  intro _
  cases mode <;> rfl

theorem FieldsRoundTrip.answerCall (env : Env) : FieldsRoundTrip.Statement (.answerCall env) := fun _ => rfl

theorem FieldsRoundTrip.answerCallMode (double : Bool) (env : Env) : FieldsRoundTrip.Statement (.answerCallMode double env) := by
  intro _
  have h : (BitVec.ofNat 4 double.toNat).getLsbD 0 = double := by cases double <;> decide
  show Decoded.instr (.answerCallMode ((BitVec.ofNat 4 double.toNat).getLsbD 0) env) = _
  rw [h]

theorem FieldsRoundTrip.disconnectCall (cause : Cause) (env : Env) : FieldsRoundTrip.Statement (.disconnectCall cause env) := by
  intro _
  cases cause <;> rfl

theorem FieldsRoundTrip.ackCall (env : Env) : FieldsRoundTrip.Statement (.ackCall env) := fun _ => rfl

theorem FieldsRoundTrip.setIdle (env : Env) : FieldsRoundTrip.Statement (.setIdle env) := fun _ => rfl

theorem FieldsRoundTrip.setBlocked (env : Env) : FieldsRoundTrip.Statement (.setBlocked env) := fun _ => rfl

theorem FieldsRoundTrip.alarm (raised : Bool) (env : Env) : FieldsRoundTrip.Statement (.alarm raised env) := by
  intro _
  have h : (BitVec.ofNat 4 raised.toNat).getLsbD 0 = raised := by cases raised <;> decide
  show Decoded.instr (.alarm ((BitVec.ofNat 4 raised.toNat).getLsbD 0) env) = _
  rw [h]

theorem FieldsRoundTrip.stageClr (env : Env) : FieldsRoundTrip.Statement (.stageClr env) := fun _ => rfl

theorem FieldsRoundTrip.stageAni (digit : Digit) (env : Env) : FieldsRoundTrip.Statement (.stageAni digit env) := fun _ => rfl

theorem FieldsRoundTrip.stageDnis (digit : Digit) (env : Env) : FieldsRoundTrip.Statement (.stageDnis digit env) := fun _ => rfl

end Sys2Proof.Laws
end

