-- ==== Sys2Proof/Tests/Slice0.lean ====
section
/-! SUPPORT. Tests. Expected results are from spec/95_test_vectors.md (V<n>), never from the model. One step each, from small
states of the reference configuration ITU-REF; then one witness theorem for each obligation that has hypotheses. -/

namespace Sys2Proof.Tests
open Sys2Proof.Machine

/-! ### Helpers -/

/-- An environment in which nothing fails. -/
def sample (line : LineCode) : Env := { ierr := false, werr := false, lerr := false, line := line }

/-- The trace of the step on one word. -/
def reacts (w : OpBits) (rs : List RespBits) (s : State) : Option (List Action) :=
  match step { s with input := [{ word := w, responses := rs }] } with
  | .next t => some t.out
  | .fault _ => none
  | .refused _ => none

/-- A state with its configuration changed. -/
def configured (f : Cfg → Cfg) (s : State) : State := { s with cfg := f s.cfg }

/-- One timer of the configuration set. -/
def timed (f : TimerTable → TimerTable) (c : Cfg) : Cfg := { c with timer := f c.timer }

/-- READY (spec/95_test_vectors.md section 1.3). -/
def ready : State :=
  { State.reset with
    casState := .idle, rxValid := true, rxRaw := 0x8, rxCode := 0x8, rxSig := some .idle, txSig := some .idle
    txRaw := 0x9, txCode := 0x8 }

/-- The end of V2: backward, SeizeAckTxd, Collecting. -/
def collecting : State :=
  { ready with
    casState := .seizeAckTxd, mfState := .seizeAckTxd, mfGroup := .backInit, callState := .collecting
    direction := .backward, rxRaw := 0, rxCode := 0, mfLive := true }

/-- Backward, one DNIS digit stored and the next one requested. -/
def dnisRequested : State :=
  { collecting with mfState := .dnisRqTxd, mfGroup := .ga, dnis := [1], armed := 0x080 }

/-- Backward, DNIS complete, the category requested. -/
def categoryRequested : State := { dnisRequested with mfState := .categoryRqTxd, dnis := [1, 2, 3, 4], dnisDone := true }

/-- Backward, the category known, an ANI digit requested. -/
def aniRequested : State := { categoryRequested with mfState := .aniRqTxd, callerCategory := 1 }

/-- Backward, Offered: the Group II category has arrived and its tone is on. -/
def offered : State :=
  { aniRequested with
    mfState := .chgGiiTxd, mfGroup := .gb, callState := .offered, aniDone := true, mfReadTone := 1, armed := 0 }

/-- Backward, Accepted, the MF engine released. -/
def accepted : State := { offered with mfState := .off, mfLive := false, mfReadTone := 0, callState := .accepted }

/-- Backward, Answered. -/
def answeredBack : State := { accepted with casState := .answerTxd, callState := .answered, answered := true }

/-- Forward, Seize transmitted, "1234" dialled. -/
def dialled : State :=
  { ready with
    casState := .seizeTxd, mfGroup := .fwdInit, callState := .dialing, direction := .forward, dnis := [1, 2, 3, 4]
    ani := [5, 5], callerCategory := 1, armed := 0x001 }

/-- Forward, the DNIS digit at `dnis_index` on the line. -/
def sending (index : BitVec 6) : State :=
  { dialled with
    casState := .seizeAckRxd, mfGroup := .gi, mfState := .dnisTxd, mfLive := true, mfWriteTone := 3, dnisIndex := index
    armed := 0, rxRaw := 0xC, rxCode := 0xC }

/-- Forward, the category sent in Group II position. -/
def deciding : State := { sending 0 with mfGroup := .gii, mfState := .categoryTxd }

/-- Forward, Accepted, the answer timer running. -/
def acceptedForward : State :=
  { deciding with
    casState := .acceptRxd, callState := .accepted, mfState := .off, mfLive := false, mfWriteTone := 0, armed := 0x004 }

/-- Forward, Answered. -/
def answeredForward : State :=
  { acceptedForward with
    casState := .answerRxd, callState := .answered, answered := true, rxRaw := 4, rxCode := 4, armed := 0 }

/-- Forward, glare seen. -/
def glare : State := { dialled with casState := .doubleSeizure, callState := .disconnected, armed := 0x002, rxRaw := 0, rxCode := 0 }

/-! ### Well-formedness: each check refuses an ill-formed term -/

theorem test_wf_refuses_tone_zero : (Instr.toneOn 0 (sample 0)).wf = false := by decide

theorem test_wf_accepts_tone_fifteen : (Instr.toneOn 15 (sample 0)).wf = true := by decide

theorem test_cfg_wf_refuses : ({ Config.ituRef with maxAni := 33 } : Cfg).wf = false ∧
    ({ Config.ituRef with maxDnis := 33 } : Cfg).wf = false ∧ ({ Config.ituRef with r2Mask := 0 } : Cfg).wf = false := by
  decide

theorem test_cfg_wf_accepts : Config.ituRef.wf = true ∧ ({ Config.ituRef with maxAni := 32, maxDnis := 32 } : Cfg).wf = true := by
  decide

/-! ### Decoding: the words of V55 and V56, and the twelve timer numbers of R33 under format OPW -/

theorem test_decode_line : decode 0x080C = .instr (.line (sample 0xC)) ∧
    decode 0x0810 = .instr (.line { sample 0 with lerr := true }) ∧
    decode 0x0840 = .instr (.line { sample 0 with ierr := true }) := by decide

theorem test_decode_tones : decode 0x1780 = .instr (.toneOn 15 (sample 0)) ∧ decode 0x1800 = .instr (.toneOff (sample 0)) ∧
    decode 0x1820 = .instr (.toneOff { sample 0 with werr := true }) ∧
    decode 0x187F = .instr (.toneOff { ierr := true, werr := true, lerr := true, line := 0xF }) ∧
    decode 0x2580 = .instr (.dtmfDigit 11 (sample 0)) := by decide

theorem test_decode_timers :
    [0x2800, 0x2880, 0x2900, 0x2980, 0x2A00, 0x2A80, 0x2B00, 0x2B80, 0x2C00, 0x2C80, 0x2D00, 0x2D88].map decode =
      [.instr (.timerExpSeize (sample 0)), .instr (.timerExpSeizePersist (sample 0)),
       .instr (.timerExpAnswer (sample 0)), .instr (.timerExpAnswerDelay (sample 0)),
       .instr (.timerExpDoubleAnswer (sample 0)), .instr (.timerExpSetCallDown (sample 0)),
       .instr (.timerExpMeteringPulse (sample 0)), .instr (.timerExpMfBackCycle (sample 0)),
       .instr (.timerExpMfBackResumeCycle (sample 0)), .instr (.timerExpMfFwdSafety (sample 0)),
       .instr (.timerExpDtmfStartDial (sample 0)), .instr (.timerExpCasPersistenceCheck (sample 8))] := by decide

theorem test_decode_call_control :
    [0x4480, 0x4880, 0x4B80, 0x5000, 0x5780, 0x5880, 0x6480, 0x6800].map decode =
      [.instr (.makeCall .collectCall true (sample 0)), .instr (.acceptCall .noCharge (sample 0)),
       .instr (.acceptCall .unknown (sample 0)), .instr (.answerCall (sample 0)), .instr (.answerCall (sample 0)),
       .instr (.answerCallMode true (sample 0)), .instr (.disconnectCall .glare (sample 0)),
       .instr (.ackCall (sample 0))] := by decide

theorem test_decode_management :
    [0x7000, 0x7800, 0x8080, 0x8008, 0x8700, 0x8800, 0x9500, 0x9C80].map decode =
      [.instr (.setIdle (sample 0)), .instr (.setBlocked (sample 0)), .instr (.alarm true (sample 0)),
       .instr (.alarm false (sample 8)), .instr (.alarm false (sample 0)), .instr (.stageClr (sample 0)),
       .instr (.stageAni 10 (sample 0)), .instr (.stageDnis 9 (sample 0))] := by decide

theorem test_decode_illegal :
    [0x0000, 0x3000, 0x3800, 0xA000, 0xF800, 0x1000, 0x2E00, 0x2F80, 0x6500, 0x4600, 0x4780].map decode =
      [.illegal .unlistedOp, .illegal .unlistedOp, .illegal .unlistedOp, .illegal .unlistedOp, .illegal .unlistedOp,
       .illegal .toneZero, .illegal .timerOutOfRange, .illegal .timerOutOfRange, .illegal .causeOutOfRange,
       .illegal .categoryOutOfRange, .illegal .categoryOutOfRange] := by decide

/-- The spec/opcode_table.json words of LINE and STAGE_DNIS, in the table's numbering. -/
theorem test_table_words : decodeTableWord 16 0x080C = some (.line (sample 0xC)) ∧
    decodeTableWord 16 0x9C80 = some (.stageDnis 9 (sample 0)) ∧ decodeTableWord 16 0x0000 = none := by decide

/-- V57: output words. -/
theorem test_output_words :
    [Action.status .badOp, .evt (.callOffered 1), .evt (.callDisconnect .glare), .evt (.protocolError .alarmRaised),
      .evt (.osError .toneFlush), .evt (.dnisDigitReceived 11), .setLine 0xD, .flush, .tone 15,
      .tmrArm .casPersistenceCheck 500, .tmrCancel .mfBackCycle, .mfInit true, .mfDispose true, .dtmfRxInit, .dtmfTxInit,
      .dtmfTiming 1 2, .dtmfPut 11, .logTx .answer 0x5, .logRx none 0x4, .logRx (some .forcedRelease) 0x0,
      .logSnap .brokenMfSequence].map Action.word =
    [0x0004, 0x1101, 0x1509, 0x1B0C, 0x1C03, 0x1D0B, 0x200D, 0x3000, 0x400F, 0x500B, 0x6007, 0x7001, 0x8001, 0x9000, 0xA000,
      0xB000, 0xC00B, 0xD075, 0xE0F4, 0xE050, 0xF009] := by decide

/-! ### One step for each operation -/

/-- V1, V55: the first step from reset runs the placed word. -/
theorem test_first_step_runs_placed_word :
    (match step (State.reset.withFetchWord 16 0x7000) with
      | .next t => some (t.casState, t.out)
      | .fault _ => none
      | .refused _ => none) = some (.idle, [.setLine 0x9, .logTx .idle 0x9, .status .ok]) := by decide

/-- V55. -/
theorem test_illegal_word : reacts 0x2E00 [] ready = some [.status .badOp] := by decide

/-- V2. -/
theorem test_line_seize : reacts 0x0800 [] ready =
    some [.logRx (some .seize) 0, .mfInit false, .mfInit true, .setLine 0xD, .logTx .seizeAck 0xD, .evt .callInit,
      .status .ok] := by decide

set_option maxRecDepth 8000 in
/-- V54, second run: the nested DISCONNECT_CALL runs, the SET_BLOCKED nested in it does not. -/
theorem test_line_nested : reacts 0x0808 [0x26300, 0x27800] offered =
    some [.logRx (some .clearForward) 8, .mfDispose false, .mfDispose true, .evt (.callDisconnect .normalClearing),
      .setLine 0x9, .logTx .idle 0x9, .evt .callEnd, .status .ok, .status .ok] := by decide

/-- V21. -/
theorem test_tone_on_digit : reacts 0x1080 [] collecting =
    some [.evt (.dnisDigitReceived 1), .flush, .tone 1, .tmrArm .mfBackCycle 5000, .status .ok] := by decide

/-- V23: the stop response. -/
theorem test_tone_on_stop : reacts 0x1100 [0x10000] dnisRequested =
    some [.tmrCancel .mfBackCycle, .evt (.dnisDigitReceived 2), .flush, .tone 5, .tmrArm .mfBackCycle 5000, .status .ok] := by
  decide

/-- V24: the digit latched by the offset request. -/
theorem test_tone_off_digit : reacts 0x1800 [] { sending 1 with mfReadTone := 2, mfWriteTone := 0 } =
    some [.flush, .tone 2, .status .ok] := by decide

/-- V30: the flush fails. -/
theorem test_tone_off_flush_fails : reacts 0x1820 [] { sending 1 with mfReadTone := 1, mfWriteTone := 0 } =
    some [.evt (.osError .toneFlush), .status .ioError] := by decide

/-- V34. -/
theorem test_dtmf_digit :
    reacts 0x2380 [] (configured (fun c => { c with detectDtmf := true, maxDnis := 2 }) { collecting with dtmfRxLive := true }) =
      some [.evt (.dnisDigitReceived 7), .status .ok] := by decide

set_option maxRecDepth 8000 in
/-- V38. -/
theorem test_timer_seize : reacts 0x2800 [] dialled =
    some [.logSnap .seizeTimeout, .setLine 0x9, .logTx .idle 0x9, .evt (.protocolError .seizeTimeout), .status .ok] := by decide

/-- V10: the remembered Clear-Forward. -/
theorem test_timer_seize_persist : reacts 0x2880 [] { glare with casState := .doubleSeizureClearFwdPending } =
    some [.setLine 0x9, .logTx .clearForward 0x9, .setLine 0x9, .logTx .idle 0x9, .evt .callEnd, .status .ok] := by decide

/-- V39. -/
theorem test_timer_answer : reacts 0x2900 [] acceptedForward =
    some [.setLine 0x9, .logTx .clearForward 0x9, .tmrArm .setCallDown 2000, .evt (.callDisconnect .noAnswer), .status .ok] := by
  decide

/-- V28. -/
theorem test_timer_answer_delay : reacts 0x2980 [] { offered with mfState := .off, mfLive := false, armed := 0x008 } =
    some [.evt (.callAccepted .charge), .status .ok] := by decide

/-- V40: the second leg. -/
theorem test_timer_double_answer :
    reacts 0x2A00 [] { answeredBack with casState := .executingDoubleAnswer, txSig := some .answer, armed := 0x010 } =
      some [.setLine 0xD, .logTx .clearBack 0xD, .tmrArm .doubleAnswer 400, .status .ok] := by decide

/-- V37. -/
theorem test_timer_set_call_down :
    reacts 0x2A80 [] { acceptedForward with casState := .clearForwardTxd, callState := .disconnected, armed := 0x020 } =
      some [.setLine 0x9, .logTx .idle 0x9, .evt .callEnd, .status .ok] := by decide

/-- R256: the line stayed at Clear-Back (0xC). -/
theorem test_timer_metering_pulse : reacts 0x2B00 [] { answeredForward with rxRaw := 0xC, rxCode := 0xC, armed := 0x040 } =
    some [.evt (.callDisconnect .normalClearing), .status .ok] := by decide

set_option maxRecDepth 8000 in
/-- V41. -/
theorem test_timer_mf_back_cycle : reacts 0x2B80 [] dnisRequested =
    some [.logSnap .backMfTimeout, .setLine 0x9, .logTx .idle 0x9, .mfDispose false, .mfDispose true,
      .evt (.protocolError .backMfTimeout), .status .ok] := by decide

/-- P4: the end of the category pulse. -/
theorem test_timer_mf_back_resume_cycle : reacts 0x2C00 [] { categoryRequested with mfWriteTone := 5, armed := 0x100 } =
    some [.tone 0, .tmrArm .mfBackCycle 5000, .status .ok] := by decide

set_option maxRecDepth 8000 in
/-- V42. -/
theorem test_timer_mf_fwd_safety :
    reacts 0x2C80 [] { sending 1 with mfState := .waitingTimeout, mfWriteTone := 0, armed := 0x200 } =
      some [.logSnap .fwdSafetyTimeout, .setLine 0x9, .logTx .idle 0x9, .mfDispose false, .mfDispose true,
        .evt (.protocolError .fwdSafetyTimeout), .status .ok] := by decide

/-- V36. -/
theorem test_timer_dtmf_start_dial :
    reacts 0x2D00 [] { dialled with casState := .seizeAckRxd, mfGroup := .dtmfFwdInit, dnis := [1, 2, 11], armed := 0x404 } =
      some [.dtmfTxInit, .dtmfTiming 0 0, .dtmfPut 1, .dtmfPut 2, .dtmfPut 11, .status .ok] := by decide

/-- V51: the code shown at expiry is the pending one. -/
theorem test_timer_cas_persistence_check :
    reacts 0x2D8C [] (configured (timed fun t => { t with casPersistenceCheck := 500 })
        { ready with rxValid := false, pendingValid := true, pendingCode := 0xC, armed := 0x800 }) =
      some [.logRx (some .block) 0xC, .evt .lineBlocked, .status .ok] := by decide

/-- V38. -/
theorem test_make_call : reacts 0x4000 [] { ready with stageDnis := [1, 2, 3, 4], stageAni := [5, 5] } =
    some [.setLine 0x1, .logTx .seize 0x1, .tmrArm .seize 8000, .status .ok] := by decide

/-- V44: the fourth refusal. -/
theorem test_make_call_too_long : reacts 0x4000 [] { ready with stageDnis := [1, 2, 3, 4, 5] } = some [.status .fail] := by decide

/-- V46: no tone for Special, so the with-charge tone. -/
theorem test_accept_call : reacts 0x4900 [] offered =
    some [.flush, .tone 6, .tmrArm .mfBackCycle 5000, .status .ok] := by decide

/-- V46. -/
theorem test_answer_call_refused : reacts 0x5000 [] offered = some [.status .fail] := by decide

/-- V40. -/
theorem test_answer_call_mode : reacts 0x5880 [] accepted =
    some [.setLine 0x5, .logTx .answer 0x5, .tmrArm .doubleAnswer 400, .status .ok] := by decide

/-- V48. -/
theorem test_disconnect_call_answered : reacts 0x6400 [] answeredBack =
    some [.setLine 0x1, .logTx .forcedRelease 0x1, .status .ok] := by decide

/-- V27: by tone. -/
theorem test_disconnect_call_busy : reacts 0x6000 [] offered =
    some [.flush, .tone 3, .tmrArm .mfBackCycle 5000, .status .ok] := by decide

/-- R275 with R144. -/
theorem test_ack_call : reacts 0x6800 [] { collecting with casState := .seizeRxd, mfState := .off } =
    some [.setLine 0xD, .logTx .seizeAck 0xD, .status .ok] := by decide

/-- V47. -/
theorem test_set_idle : reacts 0x7000 [] { dnisRequested with mfWriteTone := 1 } =
    some [.setLine 0x9, .logTx .idle 0x9, .tmrCancel .mfBackCycle, .tone 0, .mfDispose false, .mfDispose true,
      .status .ok] := by decide

/-- R293: Block is 0xD on the wire (section 1.2). -/
theorem test_set_blocked : reacts 0x7800 [] ready = some [.setLine 0xD, .logTx .block 0xD, .status .ok] := by decide

/-- V50. -/
theorem test_alarm_raised : reacts 0x8080 [] { dnisRequested with mfWriteTone := 1 } =
    some [.tmrCancel .mfBackCycle, .tone 0, .status .ok] := by decide

/-- V50. -/
theorem test_alarm_cleared : reacts 0x8008 [] { dnisRequested with alarm := true, armed := 0 } =
    some [.logSnap .alarmRaised, .setLine 0x9, .logTx .idle 0x9, .mfDispose false, .mfDispose true,
      .evt (.protocolError .alarmRaised), .logRx (some .idle) 0x8, .evt .lineIdle, .status .ok] := by decide

/-- V45. -/
theorem test_staging : reacts 0x8800 [] { ready with stageDnis := [1] } = some [.status .ok] ∧
    reacts 0x9780 [] ready = some [.status .ok] ∧
    reacts 0x9880 [] { ready with stageDnis := List.replicate 32 1 } = some [.status .fail] := by decide

/-! ### Witnesses: the hypotheses of each obligation are met, clause by clause, at the boundary of a range where there is one -/

/-- A state with one word waiting. -/
def waiting (w : OpBits) (s : State) : State := { s with input := [{ word := w, responses := [] }] }

/-- No response words, so no re-entry. -/
theorem calm {s : State} (h : s.resp = []) : NoReentry s := by simp [NoReentry, h]

/-- A stop response does not re-enter. -/
theorem calm_stop {s : State} (h : s.resp = [0x10000]) : NoReentry s := by
  intro r hr
  rw [h, List.mem_singleton] at hr
  subst hr
  decide

/-- A committed LINE word with the application quiet. -/
theorem commits {r : LineCode} {s : State} (h : s.resp = [])
    (g : s.alarm = false ∧ (sample r).lerr = false ∧ r = maskCode s.cfg (sample r).line ∧
      ¬ (s.rxValid = true ∧ r = s.rxCode) ∧ debounce s.cfg = false) :
    LineCommits (sample r) r s ∧ NoReentry s := ⟨g, calm h⟩

theorem witness_DecodeEncodeRoundTrip : (Instr.toneOn 15 (sample 0xF)).wf = true := by decide

theorem witness_WordsDecodeByOperationNumber :
    [0x080C, 0x1080, 0x1800, 0x2580, 0x2D88, 0x4480, 0x4880, 0x5000, 0x5880, 0x6480, 0x6800, 0x7000, 0x7800, 0x8080, 0x8800,
      0x9500, 0x9C80].map (fun w => ((unpackWord w).op, (unpackWord w).arg)) =
    [(1, 0), (2, 1), (3, 0), (4, 11), (5, 11), (8, 9), (9, 1), (10, 0), (11, 1), (12, 9), (13, 0), (14, 0), (15, 0), (16, 1),
      (17, 0), (18, 10), (19, 9)] ∧
    Timer.casPersistenceCheck.index = 11 ∧ (unpackWord 0x4580).arg.toNat / 2 = Category.testEquipment.number ∧
    Cause.glare.number = 9 ∧ Mode.noCharge.number = 1 := by decide

theorem witness_OutputWordsDetermineActions : (Action.tmrArm .seize 1).word = (Action.tmrArm .seize 2).word := by decide

theorem witness_StepRunsTheDecodedOperation :
    (waiting 0x080C ready).input = { word := 0x080C, responses := [] } :: [] ∧
    decode 0x080C = .instr (.line (sample 0xC)) ∧ decode 0x1000 = .illegal .toneZero ∧ ready.input = [] := by decide

theorem witness_ConfigurationIsNeverWritten :
    (∃ t, exec (.setIdle (sample 0)) ready = .next t) ∧ ∃ t, step (waiting 0x7000 ready) = .next t := ⟨⟨_, rfl⟩, ⟨_, rfl⟩⟩

/-- The lengths at their maxima. -/
theorem witness_DigitLengthsStayBounded :
    let s := waiting 0x7800 { dnisRequested with dnis := [1, 2, 3, 4], ani := [1, 2, 3, 4, 5, 6, 7, 8, 9, 0] }
    (s.aniLen ≤ s.cfg.maxAni.toNat ∧ s.dnisLen ≤ s.cfg.maxDnis.toNat) ∧ ∃ t, step s = .next t := ⟨by decide, _, rfl⟩

/-- A code pending, its timer running; and none. -/
theorem witness_PendingCodeHasItsTimer :
    (let s := waiting 0x7800 { ready with pendingValid := true, pendingCode := 0xC, armed := 0x800 }
     ((s.pendingValid = true ↔ isArmed .casPersistenceCheck s = true) ∧ s.pendingCode = maskCode s.cfg s.pendingCode) ∧
       ∃ t, step s = .next t) ∧
    (let s := waiting 0x7800 ready
     ((s.pendingValid = true ↔ isArmed .casPersistenceCheck s = true) ∧ s.pendingCode = maskCode s.cfg s.pendingCode) ∧
       ∃ t, step s = .next t) := ⟨⟨by decide, _, rfl⟩, by decide, _, rfl⟩

theorem witness_StateVectorStaysCoupled : vectorCoupled (waiting 0x8080 dnisRequested) = true ∧
    vectorCoupled (waiting 0x8080 answeredForward) = true ∧
    (vectorListed (waiting 0x8080 dnisRequested) = true ∧ answerDelayFits (waiting 0x8080 dnisRequested) = true ∧
      silentWhenReleased (waiting 0x8080 dnisRequested) = true) ∧
    ∃ t, step (waiting 0x8080 dnisRequested) = .next t :=
  ⟨by decide, by decide, by decide, _, rfl⟩

/-- The example of spec/44_lifecycle_overlay.md R313 that no row has; the state of program P2 after step 37, which only a further
row has; and every further row is outside the table. -/
theorem test_vector_rows :
    vectorListed { dialled with callState := .accepted, mfGroup := .gii } = false ∧
    (let s := { offered with mfState := .off, mfLive := false, armed := 0x008 }
     vectorListed s = true ∧ tableRows.any (inRow s) = false ∧ answerDelayFits s = true) ∧
    (∀ r ∈ furtherRows, r ∉ tableRows) := by decide

theorem witness_NoTimerRunsWithoutACall :
    (let s := waiting 0x8080 dnisRequested
     (vectorCoupled s = true ∧ noStrayTimer s = true) ∧ ∃ t, step s = .next t) ∧
    (let s := waiting 0x8080 { ready with armed := 0x800 }
     (vectorCoupled s = true ∧ noStrayTimer s = true) ∧ ∃ t, step s = .next t) := ⟨⟨by decide, _, rfl⟩, by decide, _, rfl⟩

theorem witness_ReleasedEngineIsSilent :
    (let s := waiting 0x8080 accepted
     (vectorCoupled s = true ∧ silentWhenReleased s = true) ∧ ∃ t, step s = .next t) ∧
    (let s := waiting 0x8080 { dnisRequested with mfWriteTone := 1 }
     (vectorCoupled s = true ∧ silentWhenReleased s = true) ∧ ∃ t, step s = .next t) := ⟨⟨by decide, _, rfl⟩, by decide, _, rfl⟩

/-- An alarm that is on; and a running timer before an alarm. -/
theorem witness_AlarmSilencesTimers :
    (let s := waiting 0x9780 { dnisRequested with alarm := true, armed := 0 }
     quietDuringAlarm s = true ∧ (∀ d ∈ s.input.head?, ∀ r ∈ d.responses, nestsAlarm r = false) ∧ ∃ t, step s = .next t) ∧
    (let s := waiting 0x8080 dnisRequested
     quietDuringAlarm s = true ∧ (∀ d ∈ s.input.head?, ∀ r ∈ d.responses, nestsAlarm r = false) ∧ ∃ t, step s = .next t) ∧
    (nestsAlarm 0x27800 = false ∧ nestsAlarm 0x28080 = true) :=
  ⟨⟨by decide, by simp [waiting], _, rfl⟩, ⟨by decide, by simp [waiting], _, rfl⟩, by decide⟩

/-- ALARM 1 nested in the last DNIS digit, in the first tone, in the last ANI digit, and in the error of a clearing alarm. -/
theorem witness_AlarmRaisedInACallback :
    ((∀ r ∈ ([] : List RespBits), respHasOp r = false) ∧ respHasOp 0x28080 = true ∧ decode (respOpWord 0x28080) = .instr (.alarm true (sample 0))) ∧
    (let s := { dnisRequested with dnis := [1, 2, 3], resp := [0x28080] }
     s.resp = 0x28080 :: [] ∧ ToneStarts 9 s ∧ s.direction = .backward ∧ toneDigit 9 = some 9 ∧
       s.mfGroup ∈ [MfGroup.ga, .gc] ∧ s.mfState = .dnisRqTxd ∧ s.dnisLen + 1 = s.cfg.maxDnis.toNat) ∧
    (let s := { collecting with resp := [0x38080] }
     respStop 0x38080 = true ∧ ToneStarts 9 s ∧ s.direction = .backward ∧ s.mfGroup = .backInit ∧ s.mfState = .seizeAckTxd ∧
       s.dnisLen < s.cfg.maxDnis.toNat) ∧
    (let s := { aniRequested with ani := [1, 2, 3, 4, 5, 6, 7, 8, 9], resp := [0x28080] }
     ToneStarts 10 s ∧ s.direction = .backward ∧ toneDigit 10 = some 0 ∧ s.mfGroup ∈ [MfGroup.ga, .gc] ∧
       s.mfState = .aniRqTxd ∧ (10 : Tone) ∉ [s.cfg.g1.callerAniIsRestricted, s.cfg.g1.noMoreAniAvailable] ∧
       s.aniLen + 1 = s.cfg.maxAni.toNat) ∧
    (let s := { dnisRequested with alarm := true, armed := 0, resp := [0x28080] }
     s.alarm = true ∧ s.callState ≠ .idle ∧ (sample 0).lerr = false ∧ (sample 0).werr = false) := by
  refine ⟨⟨by simp, by decide⟩, ⟨rfl, ?_, by decide⟩, ⟨by decide, ?_, by decide⟩, ⟨?_, by decide⟩, by decide⟩ <;>
    unfold ToneStarts <;> decide

set_option maxRecDepth 8000 in
theorem witness_RefusedOperationsChangeNothing :
    (∃ t, exec (.answerCall (sample 0)) ready = .next t ∧ t.out.getLast? = some (.status .fail)) ∧
    (∃ t, exec (.toneOff (sample 0)) ready = .next t ∧ t.out.getLast? = some (.status .ignored)) ∧
    ∃ t, exec (.toneOn 0 (sample 0)) ready = .next t ∧ t.out.getLast? = some (.status .badOp) :=
  ⟨⟨_, rfl, by decide⟩, ⟨_, rfl, by decide⟩, _, rfl, by decide⟩

set_option maxRecDepth 8000 in
theorem witness_AtMostOneProtocolError : NoReentry dialled ∧
    (∀ env, Instr.timerExpSeize (sample 0) ≠ .alarm false env) ∧ ∃ t, exec (.timerExpSeize (sample 0)) dialled = .next t :=
  ⟨calm rfl, by simp, _, rfl⟩

set_option maxRecDepth 8000 in
theorem witness_AlarmAndStagingHaveOwners : NoReentry dialled ∧
    (∃ t, exec (.timerExpSeize (sample 0)) dialled = .next t) ∧
    (∀ raised env, Instr.timerExpSeize (sample 0) ≠ .alarm raised env) ∧
    (∀ c r env, Instr.timerExpSeize (sample 0) ≠ .makeCall c r env) ∧
    (∀ env, Instr.timerExpSeize (sample 0) ≠ .stageClr env) ∧ (∀ d env, Instr.timerExpSeize (sample 0) ≠ .stageAni d env) ∧
    ∀ d env, Instr.timerExpSeize (sample 0) ≠ .stageDnis d env :=
  ⟨calm rfl, ⟨_, rfl⟩, by simp, by simp, by simp, by simp, by simp⟩

theorem witness_EventsAreGated :
    (({ ready with alarm := true } : State).alarm = true ∧ (Instr.line (sample 0)).wf = true ∧
      isCallControl (.line (sample 0)) = false ∧ alarmFails (.ackCall (sample 0)) = true) ∧
    (ready.alarm = false ∧ expiredTimer (.timerExpSeize (sample 0)) = some .seize ∧ isArmed .seize ready = false ∧
      ready.mfLive = false ∧ (1 : Tone) ≠ 0 ∧ ready.dtmfRxLive = false) ∧
    offered.alarm = false ∧ offered.mfLive = true ∧ offered.mfReadTone = 1 ∧ collecting.alarm = false ∧
    collecting.mfLive = true ∧ collecting.mfReadTone = 0 := by decide

/-- A configuration with a persistence check of 500 ms, as V4. -/
def debounced (s : State) : State := configured (timed fun t => { t with casPersistenceCheck := 500 }) s

theorem witness_LineIsDebounced :
    (ready.alarm = false ∧ (8 : LineCode) = maskCode ready.cfg (sample 9).line ∧ ready.rxValid = true ∧ (8 : LineCode) = ready.rxCode ∧
      ready.pendingValid = false) ∧
    (let s := { debounced ready with pendingValid := true, pendingCode := 0xC, armed := 0x800 }
     s.alarm = false ∧ (s.rxValid = true ∧ (8 : LineCode) = s.rxCode) ∧ s.pendingValid = true ∧
       duration s.cfg .casPersistenceCheck ≠ 0 ∧ ¬ (s.rxValid = true ∧ (0xC : LineCode) = s.rxCode) ∧ s.pendingCode = 0xC ∧
       ¬ (s.rxValid = true ∧ (0 : LineCode) = s.rxCode) ∧ ¬ (s.pendingValid = true ∧ s.pendingCode = 0)) ∧
    (let s := debounced ready
     s.alarm = false ∧ (sample 0).lerr = false ∧ duration s.cfg .casPersistenceCheck ≠ 0 ∧ s.rxValid = true ∧
       s.pendingValid = false ∧ isArmed .casPersistenceCheck s = false ∧ maskCode s.cfg (sample 0).line ≠ s.rxCode ∧
       maskCode s.cfg (sample 9).line = s.rxCode) := by decide

theorem witness_LineWithoutACall :
    (let s := { ready with rxValid := false }
     (LineCommits (sample 8) 8 s ∧ NoReentry s) ∧ s.casState ∈ [CasState.init, .idle, .blocked] ∧ 8 = code s.cfg .idle) ∧
    ((LineCommits (sample 0xC) 0xC ready ∧ NoReentry ready) ∧ ready.casState ∈ [CasState.init, .idle, .blocked] ∧
      0xC ≠ code ready.cfg .idle ∧ 0xC = code ready.cfg .block) ∧
    ((LineCommits (sample 0) 0 ready ∧ NoReentry ready) ∧ ready.casState ∈ [CasState.init, .idle] ∧
      0 ≠ code ready.cfg .idle ∧ 0 ≠ code ready.cfg .block ∧ 0 = code ready.cfg .seize ∧ ready.cfg.autoSeizeAck = true) ∧
    (let s := configured (fun c => { c with autoSeizeAck := false }) ready
     (LineCommits (sample 0) 0 s ∧ NoReentry s) ∧ s.cfg.autoSeizeAck = false ∧ 0 = code s.cfg .seize) ∧
    LineCommits { sample 0 with ierr := true } 0 ready :=
  ⟨⟨commits rfl (by decide), by decide⟩, ⟨commits rfl (by decide), by decide⟩, ⟨commits rfl (by decide), by decide⟩,
    ⟨commits rfl (by decide), by decide⟩, by unfold LineCommits; decide⟩

theorem witness_UnadmittedCodeIsAProtocolError :
    ((LineCommits (sample 4) 4 collecting ∧ NoReentry collecting) ∧ decodeSignal collecting.cfg 4 collecting.casState = none ∧
      casInvalid collecting.casState = false) ∧
    (let s := { collecting with casState := .invalid }
     (LineCommits (sample 4) 4 s ∧ NoReentry s) ∧ decodeSignal s.cfg 4 s.casState = none ∧ casInvalid s.casState = true) :=
  ⟨⟨commits rfl (by decide), by decide⟩, commits rfl (by decide), by decide⟩

theorem witness_SeizeAckOpensTheExchange :
    ((LineCommits (sample 0xC) 0xC dialled ∧ NoReentry dialled) ∧ dialled.casState = .seizeTxd ∧
      0xC = code dialled.cfg .seizeAck ∧ dialled.cfg.dialWithDtmf = false ∧ dialled.dnis = 1 :: [2, 3, 4] ∧
      (1 : Digit).toNat ≤ 9) ∧
    (let s := configured (fun c => { c with frIsSeizeAck := true, dialWithDtmf := true }) dialled
     (LineCommits (sample 0) 0 s ∧ NoReentry s) ∧ s.casState = .seizeTxd ∧ s.cfg.frIsSeizeAck = true ∧
       0 = code s.cfg .forcedRelease ∧ s.cfg.dialWithDtmf = true) ∧
    (let s := { dialled with dnis := [] }
     (LineCommits (sample 0xC) 0xC s ∧ NoReentry s) ∧ s.dnis = [] ∧ s.cfg.g1.noMoreDnisAvailable ≠ 0) ∧
    (let s := configured (fun c => { c with g1 := { c.g1 with noMoreDnisAvailable := 0 } }) { dialled with dnis := [] }
     (LineCommits (sample 0xC) 0xC s ∧ NoReentry s) ∧ s.dnis = [] ∧ s.cfg.g1.noMoreDnisAvailable = 0) ∧
    LineCommits { sample 0xC with ierr := true } 0xC dialled :=
  ⟨⟨commits rfl (by decide), by decide⟩, ⟨commits rfl (by decide), by decide⟩, ⟨commits rfl (by decide), by decide⟩,
    ⟨commits rfl (by decide), by decide⟩, by unfold LineCommits; decide⟩

theorem witness_GlareIsReportedOnce :
    ((LineCommits (sample 0) 0 dialled ∧ NoReentry dialled) ∧ dialled.casState = .seizeTxd ∧ 0 ≠ code dialled.cfg .seizeAck ∧
      ¬ (dialled.cfg.frIsSeizeAck = true ∧ 0 = code dialled.cfg .forcedRelease) ∧ 0 = code dialled.cfg .seize) ∧
    ((LineCommits (sample 8) 8 glare ∧ NoReentry glare) ∧ glare.casState = .doubleSeizure ∧
      8 = code glare.cfg .clearForward) :=
  ⟨⟨commits rfl (by decide), by decide⟩, commits rfl (by decide), by decide⟩

theorem witness_ClearForwardAndCallEnd :
    ((LineCommits (sample 8) 8 collecting ∧ NoReentry collecting) ∧
      collecting.casState ∈ [CasState.seizeRxd, .seizeAckTxd, .answerTxd, .executingDoubleAnswer] ∧
      8 = code collecting.cfg .clearForward) ∧
    (let s := { collecting with casState := .clearBackTxd, callState := .disconnected }
     (LineCommits (sample 8) 8 s ∧ NoReentry s) ∧ s.casState = .clearBackTxd ∧ 8 = code s.cfg .clearForward) ∧
    (let s := { acceptedForward with casState := .clearForwardTxd, callState := .disconnected, armed := 0x020 }
     (LineCommits (sample 8) 8 s ∧ NoReentry s) ∧ s.casState = .clearForwardTxd ∧ 8 = code s.cfg .idle) :=
  ⟨⟨commits rfl (by decide), by decide⟩, ⟨commits rfl (by decide), by decide⟩, commits rfl (by decide), by decide⟩

theorem witness_PeerDisconnectIsReported :
    ((LineCommits (sample 0) 0 acceptedForward ∧ NoReentry acceptedForward) ∧
      classify acceptedForward.cfg 0 = some (.forcedRelease, .forcedRelease) ∧
      acceptedForward.casState ∈ [CasState.seizeAckRxd, .acceptRxd] ∧ 0 ≠ code acceptedForward.cfg .answer) ∧
    (let s := { acceptedForward with casState := .answerRxdMfPending, rxCode := 4 }
     (LineCommits (sample 0xC) 0xC s ∧ NoReentry s) ∧ classify s.cfg 0xC = some (.clearBack, .normalClearing) ∧
       s.casState = .answerRxdMfPending) ∧
    (let s := { acceptedForward with casState := .clearForwardTxd, callState := .disconnected, rxCode := 4 }
     (LineCommits (sample 0xC) 0xC s ∧ NoReentry s) ∧ classify s.cfg 0xC = some (.clearBack, .normalClearing) ∧
       s.casState = .clearForwardTxd ∧ 0xC ≠ code s.cfg .idle) :=
  ⟨⟨commits rfl (by decide), by decide⟩, ⟨commits rfl (by decide), by decide⟩, commits rfl (by decide), by decide⟩

theorem witness_PeerAnswerIsReported :
    ((LineCommits (sample 4) 4 acceptedForward ∧ NoReentry acceptedForward) ∧ 4 = code acceptedForward.cfg .answer ∧
      acceptedForward.casState = .acceptRxd) ∧
    (let s := { dialled with casState := .seizeAckRxd, mfGroup := .dtmfFwdInit, armed := 0x404 }
     (LineCommits (sample 4) 4 s ∧ NoReentry s) ∧ s.casState = .seizeAckRxd ∧ s.mfGroup = .dtmfFwdInit) ∧
    ((LineCommits (sample 4) 4 deciding ∧ NoReentry deciding) ∧ deciding.casState = .seizeAckRxd ∧
      deciding.mfGroup ≠ .dtmfFwdInit) :=
  ⟨⟨commits rfl (by decide), by decide⟩, ⟨commits rfl (by decide), by decide⟩, commits rfl (by decide), by decide⟩

/-- A metering pulse of 250 ms. -/
def metered (s : State) : State := configured (timed fun t => { t with meteringPulse := 250 }) s

theorem witness_MeteringPulseIsArbitrated :
    (let s := metered answeredForward
     (LineCommits (sample 0xC) 0xC s ∧ NoReentry s) ∧ s.casState = .answerRxd ∧ 0xC ≠ code s.cfg .answer ∧
       classify s.cfg 0xC = some (.clearBack, .normalClearing) ∧ duration s.cfg .meteringPulse ≠ 0 ∧ s.answered = true ∧
       isArmed .meteringPulse s = false) ∧
    (let s := metered { answeredForward with rxRaw := 0xC, rxCode := 0xC, armed := 0x040 }
     (LineCommits (sample 0) 0 s ∧ NoReentry s) ∧ classify s.cfg 0 = some (.forcedRelease, .forcedRelease) ∧
       isArmed .meteringPulse s = true ∧ LineCommits (sample 4) 4 s ∧ 4 = code s.cfg .answer) ∧
    ((LineCommits (sample 0xC) 0xC answeredForward ∧ NoReentry answeredForward) ∧
      ¬ (duration answeredForward.cfg .meteringPulse ≠ 0 ∧ answeredForward.answered = true)) ∧
    (let s := { answeredForward with rxValid := false }
     (LineCommits (sample 4) 4 s ∧ NoReentry s) ∧ 4 = code s.cfg .answer ∧ isArmed .meteringPulse s = false) :=
  ⟨⟨commits rfl (by decide), by decide⟩,
    ⟨commits rfl (by decide), by decide, by decide, by unfold LineCommits; decide, by decide⟩,
    ⟨commits rfl (by decide), by decide⟩, commits rfl (by decide), by decide⟩

theorem witness_TwoTonesWithoutOffIsBroken : offered.alarm = false ∧ offered.mfLive = true ∧ (2 : Tone) ≠ 0 ∧
    offered.mfReadTone ≠ 0 ∧ offered.mfReadTone ≠ 2 ∧ NoReentry offered :=
  ⟨by decide, by decide, by decide, by decide, by decide, calm rfl⟩

/-- The last digit; a stop; no room; the terminator and a tone that is neither. -/
theorem witness_BackwardSideCollectsDnis :
    (let s := { dnisRequested with dnis := [1, 2, 3] }
     ToneStarts 10 s ∧ NoReentry s ∧ s.direction = .backward ∧ s.mfGroup ∈ [MfGroup.ga, .gc] ∧ s.mfState = .dnisRqTxd ∧
       toneDigit 10 = some 0 ∧ s.dnisLen + 1 = s.cfg.maxDnis.toNat) ∧
    (let s := { collecting with resp := [0x10000] }
     ToneStarts 9 s ∧ NoReentry s ∧ s.mfGroup = .backInit ∧ s.mfState = .seizeAckTxd ∧ toneDigit 9 = some 9 ∧
       s.dnisLen < s.cfg.maxDnis.toNat ∧ respStop (s.resp.headD 0) = true) ∧
    (let s := { dnisRequested with dnis := [1, 2, 3, 4] }
     ToneStarts 1 s ∧ NoReentry s ∧ s.cfg.maxDnis.toNat ≤ s.dnisLen) ∧
    (ToneStarts 15 dnisRequested ∧ toneDigit 15 = none ∧ (15 : Tone) = dnisRequested.cfg.g1.noMoreDnisAvailable) ∧
    (ToneStarts 11 dnisRequested ∧ toneDigit 11 = none ∧ (11 : Tone) ≠ dnisRequested.cfg.g1.noMoreDnisAvailable) :=
  ⟨⟨by unfold ToneStarts; decide, calm rfl, by decide⟩, ⟨by unfold ToneStarts; decide, calm_stop rfl, by decide⟩,
    ⟨by unfold ToneStarts; decide, calm rfl, by decide⟩, ⟨by unfold ToneStarts; decide, by decide⟩,
    by unfold ToneStarts; decide, by decide⟩

theorem witness_BackwardSideCollectsCategoryAndAni :
    (ToneStarts 1 categoryRequested ∧ NoReentry categoryRequested ∧ categoryRequested.direction = .backward ∧
      categoryRequested.mfGroup ∈ [MfGroup.ga, .gc] ∧ categoryRequested.mfState = .categoryRqTxd ∧
      (1 : Tone) ∈ group2Tones categoryRequested.cfg ∧ (4 : Tone) ∉ group2Tones categoryRequested.cfg) ∧
    (let s := { aniRequested with ani := [1, 2, 3, 4, 5, 6, 7, 8, 9] }
     ToneStarts 10 s ∧ NoReentry s ∧ s.mfState = .aniRqTxd ∧
       (10 : Tone) ∉ [s.cfg.g1.callerAniIsRestricted, s.cfg.g1.noMoreAniAvailable] ∧ toneDigit 10 = some 0 ∧
       s.aniLen + 1 = s.cfg.maxAni.toNat) ∧
    (let s := { aniRequested with ani := [1, 2, 3, 4, 5, 6, 7, 8, 9, 0] }
     ToneStarts 1 s ∧ NoReentry s ∧ s.cfg.maxAni.toNat ≤ s.aniLen) ∧
    (ToneStarts 12 aniRequested ∧ NoReentry aniRequested ∧ (12 : Tone) = aniRequested.cfg.g1.callerAniIsRestricted ∧
      (15 : Tone) ≠ aniRequested.cfg.g1.callerAniIsRestricted ∧ (15 : Tone) = aniRequested.cfg.g1.noMoreAniAvailable ∧
      (11 : Tone) ∉ [aniRequested.cfg.g1.callerAniIsRestricted, aniRequested.cfg.g1.noMoreAniAvailable] ∧
      toneDigit 11 = none) ∧
    (let s := { aniRequested with mfState := .chgGiiTxd }
     ToneStarts 1 s ∧ NoReentry s ∧ s.mfState = .chgGiiTxd ∧ s.mfGroup ∈ [MfGroup.ga, .gc]) :=
  ⟨⟨by unfold ToneStarts; decide, calm rfl, by decide⟩, ⟨by unfold ToneStarts; decide, calm rfl, by decide⟩,
    ⟨by unfold ToneStarts; decide, calm rfl, by decide⟩, ⟨by unfold ToneStarts; decide, calm rfl, by decide⟩,
    by unfold ToneStarts; decide, calm rfl, by decide⟩

/-- The last digit and one past it; each offset from its smallest index and from one below. -/
theorem witness_ForwardSideLatchesDnisRequests :
    (∀ n ∈ [(0 : BitVec 6), 1, 2, 3], ToneStarts 1 (sending n) ∧ NoReentry (sending n) ∧ (sending n).direction = .forward ∧
      (sending n).mfGroup = .gi ∧ (sending n).mfState ≠ .off) ∧
    ((sending 2).dnisIndex.toNat + 1 < (sending 2).dnisLen ∧ (sending 3).dnisLen ≤ (sending 3).dnisIndex.toNat + 1) ∧
    (let c := (sending 0).cfg.ga
     (1 : Tone) = c.requestNextDnisDigit ∧ (2 : Tone) ≠ c.requestNextDnisDigit ∧ (2 : Tone) = c.requestDnisMinus1 ∧
       (7 : Tone) ∉ [c.requestNextDnisDigit, c.requestDnisMinus1] ∧ (7 : Tone) = c.requestDnisMinus2 ∧
       (8 : Tone) ∉ [c.requestNextDnisDigit, c.requestDnisMinus1, c.requestDnisMinus2] ∧ (8 : Tone) = c.requestDnisMinus3) ∧
    ((sending 1).dnisIndex.toNat = 0 + 1 ∧ (sending 2).dnisIndex.toNat = 0 + 2 ∧ (sending 3).dnisIndex.toNat = 0 + 3 ∧
      (sending 0).dnisIndex.toNat < 1 ∧ (sending 1).dnisIndex.toNat < 2 ∧ (sending 2).dnisIndex.toNat < 3) ∧
    (let c := ({ (sending 0).cfg.ga with requestAllDnisAgain := 9 } : GroupA)
     (9 : Tone) ∉ [c.requestNextDnisDigit, c.requestDnisMinus1, c.requestDnisMinus2, c.requestDnisMinus3] ∧
       (9 : Tone) = c.requestAllDnisAgain) ∧
    (sending 0).cfg.g1.noMoreDnisAvailable ≠ 0 ∧
    (configured (fun c => { c with g1 := { c.g1 with noMoreDnisAvailable := 0 } }) (sending 3)).cfg.g1.noMoreDnisAvailable = 0 := by
  refine ⟨?_, by decide, by decide, by decide, by decide, by decide, by decide⟩
  intro n hn
  refine ⟨⟨rfl, rfl, rfl, by decide⟩, calm rfl, rfl, rfl, ?_⟩
  show MfState.dnisTxd ≠ MfState.off
  decide

theorem witness_ForwardSideLatchesOtherRequests :
    (∀ t ∈ [(5 : Tone), 3, 6, 4, 9], ToneStarts t (sending 0)) ∧
    (NoReentry (sending 0) ∧ (sending 0).direction = .forward ∧ (sending 0).mfGroup = .gi ∧ (sending 0).mfState ≠ .off) ∧
    (let c := (sending 0).cfg.ga
     (∀ t ∈ [(5 : Tone), 3, 6, 4, 9], t ∉ [c.requestNextDnisDigit, c.requestDnisMinus1, c.requestDnisMinus2,
         c.requestDnisMinus3, c.requestAllDnisAgain]) ∧
       (5 : Tone) = c.requestCategory ∧ (5 : Tone) ≠ c.requestCategoryAndChangeToGc ∧ (5 : Tone) = c.requestNextAniDigit ∧
       (3 : Tone) ∉ [c.requestCategoryAndChangeToGc, c.requestNextAniDigit] ∧ (3 : Tone) ≠ c.requestCategory ∧
       (3 : Tone) = c.requestChangeToG2 ∧ (6 : Tone) ∉ [c.requestCategory, c.requestChangeToG2] ∧
       (6 : Tone) = c.addressCompleteChargeSetup ∧ (4 : Tone) ≠ c.addressCompleteChargeSetup ∧
       (4 : Tone) = c.networkCongestion ∧ (9 : Tone) ∉ [c.requestCategory, c.requestChangeToG2] ∧
       (9 : Tone) ∉ [c.addressCompleteChargeSetup, c.networkCongestion]) ∧
    (sending 0).categorySent = false ∧
    ¬ ((5 : Tone) = (sending 0).cfg.ga.requestCategory ∧ ({ sending 0 with categorySent := true } : State).categorySent = false) ∧
    (let c := ({ (sending 0).cfg.ga with requestCategoryAndChangeToGc := 9, requestNextAniDigit := 11 } : GroupA)
     (9 : Tone) ∉ [c.requestNextDnisDigit, c.requestDnisMinus1, c.requestDnisMinus2, c.requestDnisMinus3,
         c.requestAllDnisAgain] ∧ (9 : Tone) ≠ c.requestCategory ∧ (9 : Tone) = c.requestCategoryAndChangeToGc ∧
       (5 : Tone) ∉ [c.requestCategoryAndChangeToGc, c.requestNextAniDigit] ∧ (5 : Tone) = c.requestCategory) := by
  refine ⟨?_, ⟨calm rfl, by decide⟩, by decide⟩
  intro t ht
  refine ⟨rfl, rfl, rfl, ?_⟩
  revert t
  decide

/-- V33's Group C tones. -/
def groupC (s : State) : State :=
  configured (fun c => { c with
    gc := { requestNextAniDigit := 1, requestChangeToG2 := 3, requestNextDnisDigitAndChangeToGa := 5, networkCongestion := 4 } })
    { s with mfGroup := .giii, mfState := .categoryTxd }

theorem witness_ForwardSideFollowsGroupC :
    (∀ t ∈ [(1 : Tone), 3, 5, 4, 9], ToneStarts t (groupC (sending 0))) ∧
    (let s := groupC (sending 0)
     NoReentry s ∧ s.direction = .forward ∧ s.mfGroup = .giii ∧ s.mfState ≠ .off ∧ (1 : Tone) = s.cfg.gc.requestNextAniDigit ∧
       (3 : Tone) ≠ s.cfg.gc.requestNextAniDigit ∧ (3 : Tone) = s.cfg.gc.requestChangeToG2 ∧
       (5 : Tone) ∉ [s.cfg.gc.requestNextAniDigit, s.cfg.gc.requestChangeToG2] ∧
       (5 : Tone) = s.cfg.gc.requestNextDnisDigitAndChangeToGa ∧
       (4 : Tone) ∉ [s.cfg.gc.requestNextAniDigit, s.cfg.gc.requestChangeToG2, s.cfg.gc.requestNextDnisDigitAndChangeToGa] ∧
       (4 : Tone) = s.cfg.gc.networkCongestion ∧
       (9 : Tone) ∉ [s.cfg.gc.requestNextAniDigit, s.cfg.gc.requestChangeToG2, s.cfg.gc.requestNextDnisDigitAndChangeToGa,
         s.cfg.gc.networkCongestion]) := by
  refine ⟨?_, calm rfl, by decide⟩
  intro t ht
  refine ⟨rfl, rfl, rfl, ?_⟩
  revert t
  decide

theorem witness_ForwardSideTakesTheDecision :
    (ToneStarts 6 deciding ∧ NoReentry deciding ∧ deciding.direction = .forward ∧ deciding.mfGroup = .gii ∧
      deciding.mfState ≠ .off ∧ deciding.casState ≠ .answerRxdMfPending) ∧
    (let s := { deciding with casState := .answerRxdMfPending, rxCode := 4 }
     ToneStarts 6 s ∧ NoReentry s ∧ s.mfGroup = .gii ∧ s.casState = .answerRxdMfPending) ∧
    (let c := { deciding.cfg.gb with numberChanged := 9 }
     (6 : Tone) ∈ [c.acceptCallWithCharge, c.acceptCallNoCharge, c.acceptCallSpecial] ∧ (3 : Tone) = c.busyNumber ∧
       (4 : Tone) = c.networkCongestion ∧ (5 : Tone) = c.unallocatedNumber ∧ (9 : Tone) = c.numberChanged ∧
       (8 : Tone) = c.lineOutOfOrder ∧ (2 : Tone) = c.specialInfoTone ∧
       [c.acceptCallWithCharge, c.acceptCallNoCharge, c.acceptCallSpecial, c.busyNumber, c.networkCongestion,
         c.unallocatedNumber, c.numberChanged, c.lineOutOfOrder, c.specialInfoTone] = [6, 7, 0, 3, 4, 5, 9, 8, 2] ∧
       (15 : Tone) ∉ [6, 7, 0, 3, 4, 5, 9, 8, 2]) :=
  ⟨⟨by unfold ToneStarts; decide, calm rfl, by decide⟩, ⟨by unfold ToneStarts; decide, calm rfl, by decide⟩, by decide⟩

theorem witness_ForwardSideSendsWhatIsDue :
    (let s := { sending 3 with mfReadTone := 1, mfWriteTone := 0 }
     ToneStops s ∧ s.direction = .forward ∧ s.mfState = .dnisTxd ∧ s.dnis[s.dnisIndex.toNat]? = some 4) ∧
    (let s := { sending 3 with mfReadTone := 1, mfWriteTone := 0, mfState := .aniTxd, aniPtr := 1 }
     ToneStops s ∧ s.direction = .forward ∧ s.mfState = .aniTxd ∧ s.ani[s.aniPtr.toNat]? = some 5) ∧
    ∀ m ∈ [MfState.off, .waitingTimeout, .dnisEndTxd, .aniEndTxd, .categoryTxd],
      ToneStops { sending 3 with mfReadTone := 1, mfWriteTone := 0, mfState := m } := by
  refine ⟨⟨by unfold ToneStops; decide, by decide⟩, ⟨by unfold ToneStops; decide, by decide⟩, ?_⟩
  intro m hm
  exact ⟨rfl, rfl, show (1 : Tone) ≠ 0 by decide⟩

theorem witness_TonesOutOfPhaseAreErrors :
    (∀ d ∈ [Direction.stopped, .unassigned], ToneStarts 1 { collecting with direction := d } ∧
      ToneStops { offered with direction := d } ∧ d ∉ [Direction.backward, .forward]) ∧
    (let s := { collecting with mfState := .off }
     ToneStarts 1 s ∧ NoReentry s ∧ s.mfGroup = .backInit ∧ s.mfState ≠ .seizeAckTxd) ∧
    (let s := { offered with mfReadTone := 0 }
     ToneStarts 1 s ∧ NoReentry s ∧ s.mfGroup = .gb) ∧
    (let s := { dnisRequested with mfState := .acceptedTxd }
     ToneStarts 1 s ∧ NoReentry s ∧ s.mfGroup ∈ [MfGroup.ga, .gc] ∧
       s.mfState ∉ [MfState.dnisRqTxd, .categoryRqTxd, .aniRqTxd, .chgGiiTxd]) ∧
    (let s := { collecting with mfGroup := .dtmfBackInit, mfState := .detectingDtmf }
     ToneStarts 1 s ∧ NoReentry s ∧ s.mfGroup = .dtmfBackInit) ∧
    (let s := { collecting with mfGroup := .gi }
     ToneStarts 1 s ∧ NoReentry s ∧ s.direction = .backward ∧
       s.mfGroup ∉ [MfGroup.backInit, .ga, .gb, .gc, .dtmfBackInit]) ∧
    (let s := { sending 0 with mfState := .off }
     ToneStarts 1 s ∧ NoReentry s ∧ s.direction = .forward ∧ s.mfGroup ∈ [MfGroup.gi, .gii, .giii] ∧ s.mfState = .off) ∧
    (let s := { sending 0 with mfGroup := .fwdInit }
     ToneStarts 1 s ∧ NoReentry s ∧ s.mfGroup ∉ [MfGroup.gi, .gii, .giii]) ∧
    (let s := { offered with mfState := .off }
     ToneStops s ∧ NoReentry s ∧ s.direction = .backward ∧
       s.mfState ∉ [MfState.seizeAckTxd, .categoryRqTxd, .dnisRqTxd, .aniRqTxd, .chgGiiTxd, .acceptedTxd, .disconnectTxd,
         .detectingDtmf]) ∧
    (let s := { sending 0 with mfReadTone := 1, mfState := .dialingDtmf }
     ToneStops s ∧ NoReentry s ∧ s.direction = .forward ∧
       s.mfState ∉ [MfState.off, .categoryTxd, .dnisTxd, .dnisEndTxd, .aniTxd, .aniEndTxd, .waitingTimeout]) ∧
    (let s := { sending 0 with mfReadTone := 1, dnis := [10], ani := [15] }
     ToneStops s ∧ NoReentry s ∧ s.mfState = .dnisTxd ∧ s.dnis[s.dnisIndex.toNat]? = some 10 ∧
       s.ani[s.aniPtr.toNat]? = some 15) := by
  refine ⟨?_, ⟨by unfold ToneStarts; decide, calm rfl, by decide⟩, ⟨by unfold ToneStarts; decide, calm rfl, by decide⟩,
    ⟨by unfold ToneStarts; decide, calm rfl, by decide⟩, ⟨by unfold ToneStarts; decide, calm rfl, by decide⟩,
    ⟨by unfold ToneStarts; decide, calm rfl, by decide⟩, ⟨by unfold ToneStarts; decide, calm rfl, by decide⟩,
    ⟨by unfold ToneStarts; decide, calm rfl, by decide⟩, ⟨by unfold ToneStops; decide, calm rfl, by decide⟩,
    ⟨by unfold ToneStops; decide, calm rfl, by decide⟩, by unfold ToneStops; decide, calm rfl, by decide⟩
  intro d hd
  refine ⟨⟨rfl, rfl, rfl, by decide⟩, ⟨rfl, rfl, show (1 : Tone) ≠ 0 by decide⟩, ?_⟩
  revert d
  decide

theorem witness_BackwardSideFinishesPhases :
    (∀ m ∈ [MfState.seizeAckTxd, .categoryRqTxd, .dnisRqTxd, .aniRqTxd, .chgGiiTxd, .detectingDtmf, .acceptedTxd, .disconnectTxd],
      ToneStops { offered with mfState := m } ∧ NoReentry { offered with mfState := m }) ∧
    offered.direction = .backward ∧ offered.callState ≠ .collecting ∧ duration offered.cfg .answerDelay ≠ 0 ∧
    (let s := { offered with mfState := .acceptedTxd, callState := .collecting }
     ToneStops s ∧ NoReentry s ∧ s.callState = .collecting) ∧
    (let s := configured (timed fun t => { t with answerDelay := 0 }) { offered with mfState := .acceptedTxd }
     ToneStops s ∧ NoReentry s ∧ duration s.cfg .answerDelay = 0) := by
  refine ⟨?_, by decide, by decide, by decide, ⟨by unfold ToneStops; decide, calm rfl, by decide⟩,
    by unfold ToneStops; decide, calm rfl, by decide⟩
  intro m hm
  exact ⟨⟨rfl, rfl, show (1 : Tone) ≠ 0 by decide⟩, calm rfl⟩

theorem witness_DtmfDigitsAreCollected :
    (let s := { collecting with dtmfRxLive := true, dnis := [1, 2] }
     s.alarm = false ∧ s.dtmfRxLive = true ∧ NoReentry s ∧ s.mfGroup = .backInit ∧ s.mfState = .seizeAckTxd ∧
       s.dnisLen + 2 = s.cfg.maxDnis.toNat ∧ respStop (s.resp.headD 0) = false) ∧
    (let s := { collecting with dtmfRxLive := true, dnis := [1, 2, 3], mfGroup := .dtmfBackInit, mfState := .detectingDtmf }
     NoReentry s ∧ s.mfGroup = .dtmfBackInit ∧ s.mfState = .detectingDtmf ∧ s.dnisLen + 1 = s.cfg.maxDnis.toNat) ∧
    (let s := { collecting with dtmfRxLive := true, resp := [0x10000] }
     NoReentry s ∧ s.dnisLen + 1 < s.cfg.maxDnis.toNat ∧ respStop (s.resp.headD 0) = true) ∧
    (let s := { collecting with dtmfRxLive := true, dnis := [1, 2, 3, 4] }
     NoReentry s ∧ s.cfg.maxDnis.toNat ≤ s.dnisLen) ∧
    (let s := { dnisRequested with dtmfRxLive := true }
     NoReentry s ∧ ¬ ((s.mfGroup = .backInit ∧ s.mfState = .seizeAckTxd) ∨
       (s.mfGroup = .dtmfBackInit ∧ s.mfState = .detectingDtmf))) :=
  ⟨⟨rfl, rfl, calm rfl, by decide⟩, ⟨calm rfl, by decide⟩, ⟨calm_stop rfl, by decide⟩, ⟨calm rfl, by decide⟩, calm rfl,
    by decide⟩

/-- Every timer running in a state none of the rows about it names. -/
theorem witness_TimeoutsTakeTheErrorPath :
    let s := { collecting with armed := 0xFFF }
    s.alarm = false ∧ NoReentry s ∧ (∀ t ∈ allTimers, isArmed t s = true) ∧
    s.casState ∉ [CasState.doubleSeizure, .doubleSeizureClearFwdPending] ∧ s.casState ∉ [CasState.acceptRxd, .seizeAckRxd] ∧
    ¬ (s.casState = .seizeAckTxd ∧ s.callState = .offered) ∧
    ¬ (s.casState = .executingDoubleAnswer ∧ s.txSig ∈ [some Signal.answer, some .clearBack]) ∧ s.casState ≠ .answerRxd ∧
    ¬ (s.casState = .seizeAckRxd ∧ s.mfGroup = .dtmfFwdInit) := by
  refine ⟨rfl, calm rfl, by decide⟩

theorem witness_ClearingTimersAct :
    (NoReentry glare ∧ glare.alarm = false ∧ isArmed .seizePersist glare = true ∧ glare.casState = .doubleSeizure) ∧
    (let s := { glare with casState := .doubleSeizureClearFwdPending }
     NoReentry s ∧ isArmed .seizePersist s = true ∧ s.casState = .doubleSeizureClearFwdPending) ∧
    (NoReentry acceptedForward ∧ isArmed .answer acceptedForward = true ∧
      acceptedForward.casState ∈ [CasState.acceptRxd, .seizeAckRxd]) ∧
    (let s := { acceptedForward with casState := .clearForwardTxd, armed := 0x020 }
     NoReentry s ∧ isArmed .setCallDown s = true) :=
  ⟨⟨calm rfl, by decide⟩, ⟨calm rfl, by decide⟩, ⟨calm rfl, by decide⟩, calm rfl, by decide⟩

theorem witness_AnswerTimersAct :
    (let s := { offered with mfState := .off, mfLive := false, armed := 0x008 }
     s.alarm = false ∧ NoReentry s ∧ isArmed .answerDelay s = true ∧ s.casState = .seizeAckTxd ∧ s.callState = .offered) ∧
    (∀ sig ∈ [Signal.answer, .clearBack],
      let s := { answeredBack with casState := .executingDoubleAnswer, txSig := some sig, armed := 0x010 }
      NoReentry s ∧ isArmed .doubleAnswer s = true ∧ s.casState = .executingDoubleAnswer ∧ s.txSig = some sig) ∧
    (let s := { answeredForward with rxRaw := 0xC, rxCode := 0xC, armed := 0x040 }
     NoReentry s ∧ isArmed .meteringPulse s = true ∧ s.casState = .answerRxd ∧
       classify s.cfg s.rxCode = some (.clearBack, .normalClearing)) ∧
    (let s := { answeredForward with rxRaw := 8, rxCode := 8, armed := 0x040 }
     NoReentry s ∧ isArmed .meteringPulse s = true ∧ s.casState = .answerRxd ∧ classify s.cfg s.rxCode = none) ∧
    (let s := { dialled with casState := .seizeAckRxd, mfGroup := .dtmfFwdInit, armed := 0x404 }
     NoReentry s ∧ isArmed .dtmfStartDial s = true ∧ s.casState = .seizeAckRxd ∧ s.mfGroup = .dtmfFwdInit) := by
  refine ⟨⟨rfl, calm rfl, by decide⟩, ?_, ⟨calm rfl, by decide⟩, ⟨calm rfl, by decide⟩, calm rfl, by decide⟩
  intro sig hs
  exact ⟨calm rfl, show isArmed .doubleAnswer { answeredBack with armed := 0x010 } = true by decide, rfl, rfl⟩

theorem witness_CycleTimersAct :
    (let s := configured (fun c => { c with g1 := { c.g1 with noMoreDnisAvailable := 0 } }) dnisRequested
     s.alarm = false ∧ NoReentry s ∧ isArmed .mfBackCycle s = true ∧ s.direction = .backward ∧ s.mfReadTone = 0 ∧
       s.mfState = .dnisRqTxd ∧ s.cfg.g1.noMoreDnisAvailable = 0) ∧
    (let s := configured (fun c => { c with g1 := { c.g1 with noMoreAniAvailable := 0 } }) aniRequested
     s.alarm = false ∧ NoReentry s ∧ isArmed .mfBackCycle s = true ∧ s.direction = .backward ∧ s.mfReadTone = 0 ∧
       s.mfState = .aniRqTxd ∧ s.cfg.g1.noMoreAniAvailable = 0) ∧
    (NoReentry dnisRequested ∧ isArmed .mfBackCycle dnisRequested = true ∧
      ¬ (dnisRequested.direction = .backward ∧ dnisRequested.mfReadTone = 0 ∧
        ((dnisRequested.mfState = .dnisRqTxd ∧ dnisRequested.cfg.g1.noMoreDnisAvailable = 0) ∨
          (dnisRequested.mfState = .aniRqTxd ∧ dnisRequested.cfg.g1.noMoreAniAvailable = 0)))) ∧
    (let s := { categoryRequested with mfWriteTone := 5, armed := 0x100 }
     NoReentry s ∧ isArmed .mfBackResumeCycle s = true ∧ s.mfState ≠ .acceptedTxd) ∧
    (let s := { categoryRequested with mfState := .acceptedTxd, mfWriteTone := 6, armed := 0x100 }
     NoReentry s ∧ isArmed .mfBackResumeCycle s = true ∧ s.mfState = .acceptedTxd ∧ s.callState = .collecting) ∧
    (let s := { offered with mfState := .acceptedTxd, mfWriteTone := 6, armed := 0x100 }
     NoReentry s ∧ isArmed .mfBackResumeCycle s = true ∧ s.mfState = .acceptedTxd ∧ s.callState ≠ .collecting ∧
       duration s.cfg .answerDelay ≠ 0) ∧
    (let s := configured (timed fun t => { t with answerDelay := 0 }) { offered with mfState := .acceptedTxd, armed := 0x100 }
     NoReentry s ∧ isArmed .mfBackResumeCycle s = true ∧ s.callState ≠ .collecting ∧ duration s.cfg .answerDelay = 0) :=
  ⟨⟨rfl, calm rfl, by decide⟩, ⟨rfl, calm rfl, by decide⟩, ⟨calm rfl, by decide⟩, ⟨calm rfl, by decide⟩,
    ⟨calm rfl, by decide⟩, ⟨calm rfl, by decide⟩, calm rfl, by decide⟩

theorem witness_PersistenceCheckDecides :
    (let s := { debounced ready with pendingValid := true, pendingCode := 0xC, armed := 0x800 }
     Expires .casPersistenceCheck s ∧ (8 : LineCode) ≠ s.pendingCode ∧ s.rxValid = true ∧ (8 : LineCode) = s.rxCode ∧
       (0 : LineCode) ≠ s.pendingCode ∧ ¬ (s.rxValid = true ∧ (0 : LineCode) = s.rxCode) ∧
       duration s.cfg .casPersistenceCheck ≠ 0) ∧
    (let s := { debounced ready with rxValid := false, pendingValid := true, pendingCode := 8, armed := 0x800 }
     Expires .casPersistenceCheck s ∧ NoReentry s ∧ 8 = s.pendingCode ∧ s.casState ∈ [CasState.init, .idle, .blocked] ∧
       8 = code s.cfg .idle) ∧
    (let s := { debounced collecting with pendingValid := true, pendingCode := 8, armed := 0x800 }
     Expires .casPersistenceCheck s ∧ NoReentry s ∧ s.casState = .seizeAckTxd ∧ 8 = code s.cfg .clearForward) ∧
    (let s := { debounced collecting with pendingValid := true, pendingCode := 4, armed := 0x800 }
     Expires .casPersistenceCheck s ∧ NoReentry s ∧ casInvalid s.casState = false ∧
       decodeSignal s.cfg 4 s.casState = none) ∧
    (let s := { debounced ready with pendingValid := true, pendingCode := 0, armed := 0x800 }
     Expires .casPersistenceCheck s ∧ NoReentry s ∧ 0 = maskCode s.cfg (sample 0).line ∧ 0 = s.pendingCode ∧
       (sample 0).lerr = false ∧ LineCommits (sample 0) 0 (undebounced (fired .casPersistenceCheck s)) ∧
       decodeSignal s.cfg 0 s.casState = some .seize) :=
  ⟨⟨by unfold Expires; decide, by decide⟩, ⟨by unfold Expires; decide, calm rfl, by decide⟩,
    ⟨by unfold Expires; decide, calm rfl, by decide⟩, ⟨by unfold Expires; decide, calm rfl, by decide⟩,
    by unfold Expires; decide, calm rfl, by decide, by decide, rfl, by unfold LineCommits; decide, by decide⟩

/-- Both sides of the capacity. -/
theorem witness_StagingEffect : ({ ready with stageAni := List.replicate 31 1 } : State).stageAniLen ≠ Config.cap ∧
    ({ ready with stageAni := List.replicate 32 1 } : State).stageAniLen = Config.cap ∧
    ({ ready with stageDnis := List.replicate 31 1 } : State).stageDnisLen ≠ Config.cap ∧
    ({ ready with stageDnis := List.replicate 32 1 } : State).stageDnisLen = Config.cap ∧
    (0x8810 : OpBits) &&& 0xF800 = 0x8800 ∧ (0x9500 : OpBits) &&& 0xF800 = 0x9000 ∧
    (0x9C80 : OpBits) &&& 0xF800 = 0x9800 := by decide

/-- The staged strings at their maxima; one digit too many. -/
theorem witness_MakeCallEffect :
    CanDial .testEquipment { ready with stageAni := [1, 2, 3, 4, 5, 6, 7, 8, 9, 0], stageDnis := [9, 9, 9, 9] } ∧
    ¬ CanDial .testEquipment { ready with stageDnis := [1, 2, 3, 4, 5] } := by
  constructor <;> unfold CanDial <;> decide

theorem witness_AckAndAcceptEffect :
    (let s := { collecting with casState := .seizeRxd, mfState := .off }
     s.alarm = false ∧ s.casState = .seizeRxd) ∧
    ¬ (collecting.alarm = false ∧ collecting.casState = .seizeRxd) ∧
    (CanAccept offered ∧ offered.mfLive = true ∧ offered.mfGroup = .gb ∧ acceptTone offered.cfg .special ≠ 0) ∧
    (let s := configured (fun c => { c with gb := { c.gb with acceptCallWithCharge := 0 } }) offered
     CanAccept s ∧ acceptTone s.cfg .charge = 0) ∧
    (let s := { offered with mfGroup := .dtmfBackInit, mfState := .off }
     CanAccept s ∧ s.mfGroup = .dtmfBackInit ∧ NoReentry s) ∧
    (let s := { offered with mfGroup := .ga, mfState := .off, mfLive := false }
     CanAccept s ∧ ¬ (s.mfLive = true ∧ s.mfGroup = .gb) ∧ s.mfGroup ≠ .dtmfBackInit ∧ NoReentry s ∧
       duration s.cfg .answerDelay ≠ 0) ∧
    (let s := configured (timed fun t => { t with answerDelay := 0 }) { offered with mfGroup := .ga, mfState := .off, mfLive := false }
     CanAccept s ∧ NoReentry s ∧ duration s.cfg .answerDelay = 0) ∧
    ¬ CanAccept accepted := by
  refine ⟨by decide, by decide, ⟨?_, by decide⟩, ⟨?_, by decide⟩, ⟨?_, by decide, calm rfl⟩,
    ⟨?_, by decide, by decide, calm rfl, by decide⟩, ⟨?_, calm rfl, by decide⟩, ?_⟩ <;> unfold CanAccept <;> decide

theorem witness_AnswerEffect :
    CanAnswer accepted ∧ CanAnswer { offered with mfGroup := .dtmfBackInit, mfState := .off } ∧ ¬ CanAnswer offered ∧
    (configured (fun c => { c with doubleAnswer := true }) accepted).cfg.doubleAnswer = true := by
  refine ⟨?_, ?_, ?_, by decide⟩ <;> unfold CanAnswer <;> decide

theorem witness_DisconnectRows :
    (ready.callState = .idle ∧ ({ offered with alarm := true } : State).alarm = true) ∧
    (∀ c ∈ [CasState.clearBackTxd, .clearForwardTxd, .clearForwardRxd],
      let s := { answeredBack with casState := c, callState := .disconnected }
      s.alarm = false ∧ s.callState ≠ .idle ∧ s.mfState ≠ .disconnectTxd ∧ NoReentry s) ∧
    (let s := { offered with mfState := .disconnectTxd }
     s.alarm = false ∧ s.callState ≠ .idle ∧ s.mfState = .disconnectTxd) ∧
    (glare.alarm = false ∧ glare.callState ≠ .idle ∧ glare.mfState ≠ .disconnectTxd ∧ glare.direction = .forward ∧
      glare.casState = .doubleSeizure ∧ NoReentry { glare with casState := .doubleSeizureClearFwdPending }) ∧
    (answeredForward.alarm = false ∧ answeredForward.callState ≠ .idle ∧ answeredForward.mfState ≠ .disconnectTxd ∧
      answeredForward.direction = .forward ∧
      answeredForward.casState ∉ [CasState.doubleSeizure, .doubleSeizureClearFwdPending, .clearBackTxd, .clearForwardTxd,
        .clearForwardRxd]) := by
  refine ⟨by decide, ?_, by decide, ⟨by decide, by decide, by decide, by decide, by decide, calm rfl⟩, by decide⟩
  intro c hc
  exact ⟨rfl, show CallState.disconnected ≠ .idle by decide, show MfState.off ≠ .disconnectTxd by decide, calm rfl⟩

theorem witness_BackwardDisconnect :
    (∀ s ∈ [offered, answeredBack, dnisRequested], s.alarm = false ∧ s.callState ≠ .idle ∧ s.mfState ≠ .disconnectTxd ∧
      s.direction = .backward ∧ s.casState ∉ [CasState.clearBackTxd, .clearForwardTxd, .clearForwardRxd]) ∧
    (offered.callState = .offered ∧ offered.mfLive = true ∧ offered.mfGroup = .gb ∧ offered.mfState = .chgGiiTxd ∧
      causeTone offered.cfg .busyNumber ≠ 0) ∧
    (¬ (answeredBack.callState = .offered) ∧ answeredBack.callState ∈ [CallState.accepted, .answered] ∧
      ¬ (dnisRequested.callState ∈ [CallState.accepted, .answered] ∧ Cause.busyNumber = .forcedRelease) ∧
      ¬ (dnisRequested.callState = .offered)) := by decide

theorem witness_SetIdleAndSetBlocked : (sample 0).werr = false := by decide

theorem witness_AlarmEffect :
    (∀ s ∈ [ready, dnisRequested], s.alarm = false) ∧
    (let s := { debounced ready with alarm := true }
     s.alarm = true ∧ NoReentry s ∧ s.callState = .idle ∧ duration s.cfg .casPersistenceCheck ≠ 0 ∧
       s.pendingValid = false) ∧
    (let s := { ready with alarm := true }
     s.alarm = true ∧ NoReentry s ∧ s.callState = .idle ∧ duration s.cfg .casPersistenceCheck = 0 ∧
       s.casState ∈ [CasState.init, .idle, .blocked] ∧ maskCode s.cfg (sample 8).line = code s.cfg .idle) ∧
    (let s := { dnisRequested with alarm := true, armed := 0 }
     s.alarm = true ∧ NoReentry s ∧ s.callState ≠ .idle ∧ duration s.cfg .casPersistenceCheck = 0) ∧
    (let s := debounced { dnisRequested with alarm := true, armed := 0 }
     s.alarm = true ∧ NoReentry s ∧ s.callState ≠ .idle ∧ duration s.cfg .casPersistenceCheck ≠ 0) :=
  ⟨by decide, ⟨rfl, calm rfl, by decide⟩, ⟨rfl, calm rfl, by decide⟩, ⟨rfl, calm rfl, by decide⟩, rfl, calm rfl,
    by decide⟩

/-- SET_BLOCKED nested in line-idle, DISCONNECT_CALL nested in call-accepted, LINE nested (dropped). -/
theorem witness_ReentryRunsInsideTheOperation :
    (let s := { ready with rxValid := false, resp := [0x27800] }
     s.resp = 0x27800 :: [] ∧ LineCommits (sample 8) 8 s ∧ respHasOp 0x27800 = true ∧
       s.casState ∈ [CasState.init, .idle, .blocked] ∧ 8 = code s.cfg .idle ∧
       decode (respOpWord 0x27800) = .instr (.setBlocked (sample 0))) ∧
    (let s := { dialled with casState := .seizeAckRxd, mfGroup := .dtmfFwdInit, armed := 0x404, resp := [0x26300] }
     s.resp = 0x26300 :: [] ∧ LineCommits (sample 4) 4 s ∧ respHasOp 0x26300 = true ∧ s.casState = .seizeAckRxd ∧
       s.mfGroup = .dtmfFwdInit ∧ s.direction = .forward ∧ s.mfState ≠ .disconnectTxd ∧ 4 = code s.cfg .answer ∧
       decode (respOpWord 0x26300) = .instr (.disconnectCall .normalClearing (sample 0))) ∧
    (decode (respOpWord 0x20800) = .instr (.line (sample 0)) ∧ isCallControl (.line (sample 0)) = false) := by
  refine ⟨⟨rfl, ?_, by decide⟩, ⟨rfl, ?_, by decide⟩, by decide⟩ <;> unfold LineCommits <;> decide

/-- The sampled code, with line writes that fail. -/
def failing (line : LineCode) : Env := { ierr := false, werr := true, lerr := false, line := line }

theorem witness_FailedIoIsReported :
    (failing 0).werr = true ∧
    (NoReentry ready ∧ CanDial .nationalSubscriber ready) ∧
    (let s := { collecting with casState := .seizeRxd, mfState := .off }
     NoReentry s ∧ s.alarm = false ∧ s.casState = .seizeRxd) ∧
    (NoReentry accepted ∧ CanAnswer accepted) ∧
    (let s := { answeredBack with casState := .clearForwardRxd, callState := .disconnected }
     NoReentry s ∧ s.alarm = false ∧ s.callState ≠ .idle ∧ s.mfState ≠ .disconnectTxd ∧ s.casState = .clearForwardRxd) ∧
    (∀ s ∈ [glare, answeredForward, answeredBack], s.resp = [] ∧ s.alarm = false ∧ s.callState ≠ .idle ∧
      s.mfState ≠ .disconnectTxd ∧ s.casState ∉ [CasState.clearBackTxd, .clearForwardTxd] ∧
      (s.direction = .forward ∨ (s.direction = .backward ∧ s.callState ≠ .offered))) ∧
    (NoReentry offered ∧ CanAccept offered ∧ offered.mfLive = true ∧ offered.mfGroup = .gb ∧
      acceptTone offered.cfg .charge ∉ [0, offered.mfWriteTone]) ∧
    (offered.alarm = false ∧ offered.direction = .backward ∧
      offered.casState ∉ [CasState.clearBackTxd, .clearForwardTxd, .clearForwardRxd] ∧ ToneDue .busyNumber offered ∧
      causeTone offered.cfg .busyNumber ≠ offered.mfWriteTone) ∧
    (NoReentry glare ∧ Expires .seizePersist glare ∧ glare.casState ∈ [CasState.doubleSeizure, .doubleSeizureClearFwdPending] ∧
      Expires .answer acceptedForward ∧ acceptedForward.casState ∈ [CasState.acceptRxd, .seizeAckRxd]) ∧
    (let s := { answeredBack with casState := .executingDoubleAnswer, txSig := some .clearBack, armed := 0x030 }
     NoReentry s ∧ Expires .doubleAnswer s ∧ s.txSig ∈ [some Signal.answer, some .clearBack] ∧ Expires .setCallDown s) ∧
    (let s := { offered with mfState := .disconnectTxd, mfReadTone := 1 }
     NoReentry s ∧ ToneStops s ∧ s.direction = .backward ∧ s.mfState = .disconnectTxd) ∧
    (let s := { deciding with mfReadTone := 3, mfWriteTone := 0, callerCategory := 1 }
     NoReentry s ∧ ToneStops s ∧ s.direction = .forward ∧ ToneIsDue 1 s ∧ (1 : Tone) ∉ [0, s.mfWriteTone]) ∧
    (let s := { answeredBack with casState := .clearBackTxd, callState := .disconnected }
     NoReentry s ∧ LineCommits (failing 8) 8 s ∧ 8 = code s.cfg .clearForward) ∧
    (NoReentry ready ∧ LineCommits (failing 0) 0 ready ∧ ready.casState ∈ [CasState.init, .idle] ∧
      0 ≠ code ready.cfg .idle ∧ 0 ≠ code ready.cfg .block ∧ 0 = code ready.cfg .seize ∧ ready.cfg.autoSeizeAck = true) ∧
    (NoReentry dialled ∧ LineCommits (failing 0xC) 0xC dialled ∧ dialled.casState = .seizeTxd ∧
      dialled.cfg.dialWithDtmf = false ∧ 0xC = code dialled.cfg .seizeAck ∧
      (∃ d ds, dialled.dnis = d :: ds ∧ d.toNat ≤ 9) ∧ dialled.cfg.g1.noMoreDnisAvailable ≠ 0) ∧
    (let s := { debounced ready with pendingValid := true, armed := 0x800 }
     NoReentry s ∧ Expires .casPersistenceCheck s) ∧
    NoReentry { ready with alarm := true } := by
  refine ⟨rfl, ⟨calm rfl, ?_⟩, ⟨calm rfl, rfl, rfl⟩, ⟨calm rfl, ?_⟩, ⟨calm rfl, by decide⟩, by decide, ⟨calm rfl, ?_, by decide⟩,
    ⟨by decide, by decide, by decide, by unfold ToneDue; decide, by decide⟩,
    ⟨calm rfl, by unfold Expires; decide, by decide, by unfold Expires; decide, by decide⟩,
    ⟨calm rfl, by unfold Expires; decide, by decide, by unfold Expires; decide⟩,
    ⟨calm rfl, by unfold ToneStops; decide, by decide⟩,
    ⟨calm rfl, by unfold ToneStops; decide, by decide, Or.inr (Or.inr (Or.inr ⟨rfl, rfl⟩)), by decide⟩,
    ⟨calm rfl, by unfold LineCommits; decide, by decide⟩, ⟨calm rfl, by unfold LineCommits; decide, by decide⟩,
    ⟨calm rfl, by unfold LineCommits; decide, by decide, by decide, by decide, ⟨_, _, rfl, by decide⟩, by decide⟩,
    ⟨calm rfl, by unfold Expires; decide⟩, calm rfl⟩
  · unfold CanDial; decide
  · unfold CanAnswer; decide
  · unfold CanAccept; decide

theorem witness_AnswerRaceConverges : (LineCommits (sample 4) 4 deciding ∧ NoReentry deciding) ∧ ToneStarts 6 deciding ∧
    deciding.casState = .seizeAckRxd ∧ deciding.direction = .forward ∧ deciding.mfGroup = .gii ∧ deciding.mfState ≠ .off ∧
    4 = code deciding.cfg .answer ∧
    (6 : Tone) ∈ [deciding.cfg.gb.acceptCallWithCharge, deciding.cfg.gb.acceptCallNoCharge, deciding.cfg.gb.acceptCallSpecial] :=
  ⟨commits rfl (by decide), by unfold ToneStarts; decide, by decide⟩

theorem witness_GlareConvergesEitherWay :
    (LineCommits (sample 8) 8 glare ∧ NoReentry glare) ∧ 8 = code glare.cfg .clearForward ∧
    code glare.cfg .clearForward = code glare.cfg .idle ∧ glare.casState = .doubleSeizure ∧
    isArmed .seizePersist glare = true ∧ (sample 8).werr = false := ⟨commits rfl (by decide), by decide⟩

/-- The last length the statement admits. -/
theorem witness_ReceivedDnisIsTheDialledString :
    let s := { dnisRequested with armed := 0 }
    (∀ d ∈ [(9 : Digit), 0], d.toNat ≤ 9) ∧ s.resp = [] ∧ s.alarm = false ∧ s.direction = .backward ∧ s.mfLive = true ∧
    s.mfReadTone = 0 ∧ s.mfGroup = .ga ∧ s.mfState = .dnisRqTxd ∧ s.dnisDone = false ∧
    ¬ (s.cfg.getAniFirst = true ∧ s.cfg.aniCanComeFirst = true) ∧ s.cfg.ga.requestNextDnisDigit ≠ 0 ∧
    s.dnisLen + [(9 : Digit), 0].length + 1 = s.cfg.maxDnis.toNat := by decide

end Sys2Proof.Tests
end

section
/-! PROOFS. One relation between two states, `Upholds`, that every piece of every rule keeps: the configuration is the
same (R40), the digit lengths stay within their maxima (R51), and the pending code stays tied to the persistence check
(R34). Here: the relation, and how each function on the state respects it. -/

namespace Sys2Proof.Machine

/-! ### The relation -/

/-- R51. -/
def LengthsBounded (s : State) : Prop := s.aniLen ≤ s.cfg.maxAni.toNat ∧ s.dnisLen ≤ s.cfg.maxDnis.toNat

/-- R34, with the pending code a masked one. -/
def PendingMatches (s : State) : Prop :=
  (s.pendingValid = true ↔ isArmed .casPersistenceCheck s = true) ∧ s.pendingCode = maskCode s.cfg s.pendingCode

/-- What a rule that leads from `s` to `t` must leave in order. -/
structure Upholds (s t : State) : Prop where
  cfg : t.cfg = s.cfg
  lengths : LengthsBounded s → LengthsBounded t
  pending : PendingMatches s → PendingMatches t

/-- The registers that `Upholds` reads. -/
def watched (s : State) : Cfg × List Digit × List Digit × Bool × LineCode × Bool :=
  (s.cfg, s.ani, s.dnis, s.pendingValid, s.pendingCode, isArmed .casPersistenceCheck s)

namespace Upholds
variable {s t u : State}

theorem refl (s : State) : Upholds s s := ⟨rfl, id, id⟩

theorem trans (h : Upholds s t) (h' : Upholds t u) : Upholds s u :=
  ⟨h'.cfg.trans h.cfg, h'.lengths ∘ h.lengths, h'.pending ∘ h.pending⟩

/-- A change outside the watched registers. -/
theorem of_watched (h : watched t = watched s) : Upholds s t := by
  simp only [watched, Prod.mk.injEq] at h
  obtain ⟨hcfg, hani, hdnis, hvalid, hcode, hcheck⟩ := h
  refine ⟨hcfg, fun hb => ?_, fun hp => ?_⟩
  · simpa [LengthsBounded, State.aniLen, State.dnisLen, hcfg, hani, hdnis] using hb
  · simpa [PendingMatches, hcfg, hvalid, hcode, hcheck] using hp

/-- A change that leaves nothing pending and the persistence check not armed, whatever they were. -/
theorem of_nothingPending (hcfg : t.cfg = s.cfg) (hlen : LengthsBounded s → LengthsBounded t)
    (hcode : t.pendingCode = s.pendingCode) (hvalid : t.pendingValid = false)
    (hcheck : isArmed .casPersistenceCheck t = false) : Upholds s t :=
  ⟨hcfg, hlen, fun hp => ⟨by simp [hvalid, hcheck], by rw [hcode, hcfg]; exact hp.2⟩⟩

end Upholds

theorem LengthsBounded.of_digits {s t : State} (hcfg : t.cfg = s.cfg) (hani : t.ani = s.ani) (hdnis : t.dnis = s.dnis)
    (h : LengthsBounded s) : LengthsBounded t := by
  simpa [LengthsBounded, State.aniLen, State.dnisLen, hcfg, hani, hdnis] using h

theorem LengthsBounded.of_empty {s : State} (hani : s.ani = []) (hdnis : s.dnis = []) : LengthsBounded s := by
  simp [LengthsBounded, State.aniLen, State.dnisLen, hani, hdnis]

/-! ### Timers: only the persistence check is watched -/

theorem isArmed_cancel (t u : Timer) (s : State) : isArmed u (cancel t s) = (isArmed u s && !decide (u = t)) := by
  unfold cancel
  cases h : isArmed t s
  · by_cases e : u = t
    · simp [e, h]
    · simp [e]
  · rw [if_pos rfl, isArmed_disarm]
    rfl

theorem isArmed_arm (t u : Timer) (s : State) : isArmed u (arm t s) = (isArmed u s || decide (u = t)) := by
  unfold arm
  rw [isArmed_startTimer]
  split <;> rfl

theorem watched_disarm {t : Timer} (h : t ≠ .casPersistenceCheck) (s : State) :
    watched (disarm t s) = watched s := by simp [watched, isArmed_disarm, h.symm]

theorem watched_cancel {t : Timer} (h : t ≠ .casPersistenceCheck) (s : State) :
    watched (cancel t s) = watched s := by simp [watched, isArmed_cancel, h.symm]

theorem watched_arm {t : Timer} (h : t ≠ .casPersistenceCheck) (s : State) :
    watched (arm t s) = watched s := by simp [watched, isArmed_arm, h.symm]

theorem watched_cancelEach {ts : List Timer} (h : .casPersistenceCheck ∉ ts) (s : State) :
    watched (cancelEach ts s) = watched s := by
  induction ts generalizing s with
  | nil => rfl
  | cons t ts ih =>
    obtain ⟨ht, hts⟩ := List.ne_and_not_mem_of_not_mem_cons h
    rw [cancelEach, ih hts, watched_cancel ht.symm]

theorem watched_cancelCallTimers (s : State) : watched (cancelCallTimers s) = watched s :=
  watched_cancelEach (by decide) s

/-! ### The other functions on the state -/

theorem watched_closeDnisAfter (stop : Bool) (s : State) : watched (closeDnisAfter stop s) = watched s := by
  unfold closeDnisAfter
  split <;> rfl

theorem watched_closeAniByCount (s : State) : watched (closeAniByCount s) = watched s := by
  unfold closeAniByCount
  split <;> rfl

theorem watched_answerSent (double : Bool) (s : State) : watched (answerSent double s) = watched s := by
  cases double
  · rfl
  · exact watched_arm (by decide) _

theorem watched_dueDnis (i : Nat) (s : State) : watched (dueDnis i s) = watched s := by
  unfold dueDnis
  split_ifs
  · rfl
  · rfl
  · exact watched_arm (by decide) _

theorem watched_dueAni (s : State) : watched (dueAni s) = watched s := by
  unfold dueAni
  split_ifs
  · rfl
  · rfl
  · rfl
  · exact watched_arm (by decide) _

theorem cancelAll_upholds (s : State) : Upholds s (cancelAll s) :=
  .of_nothingPending (by simp) (.of_digits (by simp) (by simp) (by simp)) (by simp) rfl
    (by simp [cancelAll_eq, isArmed])

theorem resetBaseline_upholds (s : State) : Upholds s (resetBaseline s) :=
  .of_nothingPending (by simp) (fun _ => .of_empty rfl rfl) (by simp) rfl
    (by simp [resetBaseline_eq, baselineOf, isArmed])

theorem freeze_upholds (s : State) : Upholds s (freeze s) := by
  rw [freeze_eq]
  exact .of_nothingPending rfl (.of_digits rfl rfl rfl) rfl rfl (by simp [isArmed])

/-- A digit appended where there is room (R71). -/
theorem appendAni_upholds (d : Digit) {s : State} (h : s.aniLen < s.cfg.maxAni.toNat) : Upholds s (appendAni d s) where
  cfg := rfl
  lengths hb := ⟨by simpa [State.aniLen] using h, hb.2⟩
  pending := id

theorem appendDnis_upholds (d : Digit) {s : State} (h : s.dnisLen < s.cfg.maxDnis.toNat) :
    Upholds s (appendDnis d s) where
  cfg := rfl
  lengths hb := ⟨hb.1, by simpa [State.dnisLen] using h⟩
  pending := id

/-- The staged digits become the call's digits: this is why MAKE_CALL's guard compares their lengths (R272). -/
theorem openCall_upholds (category : Category) (restricted : Bool) {s : State}
    (hani : s.stageAniLen ≤ s.cfg.maxAni.toNat) (hdnis : s.stageDnisLen ≤ s.cfg.maxDnis.toNat) :
    Upholds s (openCall category restricted s) where
  cfg := rfl
  lengths _ := ⟨hani, hdnis⟩
  pending := id

/-! ### The debounce (R131, R133, R261) -/

theorem maskCode_maskCode (c : Cfg) (raw : LineCode) : maskCode c (maskCode c raw) = maskCode c raw := by
  simp [maskCode, BitVec.and_assoc]

/-- A masked code starts to wait and its timer starts with it. -/
theorem startDebounce_upholds {r : LineCode} {s : State} (hr : maskCode s.cfg r = r) :
    Upholds s (startDebounce r s) where
  cfg := by simp [startDebounce]
  lengths := .of_digits (by simp [startDebounce]) (by simp [startDebounce]) (by simp [startDebounce])
  pending _ := by simp [PendingMatches, startDebounce, isArmed_arm, hr]

theorem lineReverted_upholds (s : State) : Upholds s (lineReverted s) := by
  unfold lineReverted
  split
  · exact .of_nothingPending (by simp) (.of_digits (by simp) (by simp) (by simp)) (by simp) (by simp)
      (by simp [isArmed_cancel])
  · exact .refl s

/-- A commit leaves nothing pending, also from a state whose timer has just fired: only the configuration, the digits
and the pending code need be those of `s`. -/
theorem recordSample_upholds_of (raw : LineCode) {s s' : State} (hcfg : s'.cfg = s.cfg) (hani : s'.ani = s.ani)
    (hdnis : s'.dnis = s.dnis) (hcode : s'.pendingCode = s.pendingCode) : Upholds s (recordSample raw s') := by
  have hcheck : isArmed .casPersistenceCheck (recordSample raw s') = false := by
    show isArmed .casPersistenceCheck (cancel .casPersistenceCheck _) = false
    simp [isArmed_cancel]
  exact .of_nothingPending (by simp [recordSample, hcfg])
    (.of_digits (by simp [recordSample, hcfg]) (by simp [recordSample, hani]) (by simp [recordSample, hdnis]))
    (by simp [recordSample, hcode]) (by simp [recordSample]) hcheck

theorem recordSample_upholds (raw : LineCode) (s : State) : Upholds s (recordSample raw s) :=
  recordSample_upholds_of raw rfl rfl rfl rfl

/-- The timer of the persistence check has fired and the pending code is forgotten. -/
theorem clearPending_disarm_upholds (s : State) : Upholds s (clearPending (disarm .casPersistenceCheck s)) :=
  .of_nothingPending rfl (.of_digits rfl rfl rfl) rfl rfl (by simp [isArmed])

end Sys2Proof.Machine
end

section
/-! PROOFS. Every rule keeps `Upholds s₀`, whatever the application answers, in the order of the rules in the model;
then every operation and every step does. A proof has the shape of its rule: `.seq` for a sequence, `.look` for a read
of the state, `.ite` for a test. -/

namespace Sys2Proof.Machine

section Rules
variable {α : Type} {s₀ : State} {x : Ctx}

/-! ### Pieces -/

theorem Keeps.seq {P : State → Prop} {m : Act Unit} {n : Act α} (hm : Keeps P m) (hn : Keeps P n) :
    Keeps P (m >>= fun _ => n) := .bind hm fun _ => hn

theorem Keeps.look {P : State → Prop} {f : State → Act α} (hf : ∀ s, Keeps P (f s)) : Keeps P (Machine.see >>= f) :=
  .bind .see hf

/-- A sequence from one state: only the first piece need be considered at that state. -/
theorem Keeps.bind_at {β : Type} {P : State → Prop} {m : Act α} {f : α → Act β} {s : State} (hm : P (lastState (m s)))
    (hf : ∀ a, Keeps P (f a)) : P (lastState ((m >>= f) s)) := by
  rw [bind_apply]
  cases heq : m s with
  | ok a s' => exact hf a s' (by simpa [heq, lastState] using hm)
  | error e s' => simpa [heq, lastState] using hm

theorem upd_upholds {f : State → State} (h : ∀ s, Upholds s (f s)) : Keeps (Upholds s₀) (upd f) :=
  .upd fun s hs => hs.trans (h s)

theorem upd_frame {f : State → State} (h : ∀ s, watched (f s) = watched s) : Keeps (Upholds s₀) (upd f) :=
  upd_upholds fun s => .of_watched (h s)

theorem cancel_keeps {t : Timer} (h : t ≠ .casPersistenceCheck) : Keeps (Upholds s₀) (upd (cancel t)) :=
  upd_frame (watched_cancel h)

theorem arm_keeps {t : Timer} (h : t ≠ .casPersistenceCheck) : Keeps (Upholds s₀) (upd (arm t)) :=
  upd_frame (watched_arm h)

theorem mfRelease_keeps : Keeps (Upholds s₀) (upd mfRelease) := upd_frame fun _ => rfl

theorem status_keeps (st : Status) : Keeps (Upholds s₀) (status st) := upd_frame fun _ => rfl

theorem readDigit_keeps (buffer : List Digit) (i : Nat) : Keeps (Upholds s₀) (readDigit buffer i) := by
  intro s hs
  rcases Nat.lt_or_ge i buffer.length with h | h
  · rw [readDigit_lt h]
    exact hs
  · rw [readDigit_ge h]
    exact hs.trans (.of_watched rfl)

/-- A word nested in a response keeps `Upholds s₀`: the one thing the rules need of their context (R316). -/
def NestedUphold (s₀ : State) (x : Ctx) : Prop := ∀ w, Keeps (Upholds s₀) (x.reenter w)

variable (hx : NestedUphold s₀ x)
include hx

/-! ### Events, I/O and the error path -/

theorem emit_keeps (ev : Event) : Keeps (Upholds s₀) (emit x ev) :=
  .emit ev (fun _ hs => hs.trans (.of_watched rfl)) (fun _ _ hs => hs.trans (.of_watched rfl)) hx

theorem notify_keeps (ev : Event) : Keeps (Upholds s₀) (notify x ev) := .bind (emit_keeps hx ev) fun _ => .pure _

theorem emitGuarded_keeps (ev : Event) : Keeps (Upholds s₀) (emitGuarded x ev) :=
  .look fun _ => .bind (emit_keeps hx ev) fun _ => .look fun _ => .pure _

theorem ioError_keeps (what : OsError) : Keeps (Upholds s₀) (ioError x what : Act α) :=
  .seq (notify_keeps hx _) (.seq (status_keeps _) .finish)

theorem getLine_keeps : Keeps (Upholds s₀) (getLine x) := .ite (fun _ => ioError_keeps hx _) fun _ => .pure _

theorem txSignal_keeps (sig : Signal) : Keeps (Upholds s₀) (txSignal x sig) :=
  .ite (fun _ => ioError_keeps hx _) fun _ => upd_frame fun _ => rfl

theorem setTone_keeps (t : Tone) : Keeps (Upholds s₀) (setTone x t) :=
  .look fun _ => .ite (fun _ => .pure _) fun _ => .ite (fun _ => upd_frame fun _ => rfl) fun _ =>
    .ite (fun _ => ioError_keeps hx _) fun _ => upd_frame fun _ => rfl

theorem errorIdle_keeps : Keeps (Upholds s₀) (errorIdle x) :=
  .ite (fun _ => notify_keeps hx _) fun _ => upd_frame fun _ => rfl

theorem errorPath_keeps (kind : ErrorKind) : Keeps (Upholds s₀) (errorPath x kind) :=
  .seq (upd_frame fun _ => rfl) (.seq (errorIdle_keeps hx)
    (.seq (upd_upholds resetBaseline_upholds) (notify_keeps hx _)))

theorem protocolError_keeps (kind : ErrorKind) : Keeps (Upholds s₀) (protocolError x kind : Act α) :=
  .seq (errorPath_keeps hx kind) (.seq (status_keeps _) .finish)

theorem mfInit_keeps : Keeps (Upholds s₀) (mfInit x) :=
  .ite (fun _ => protocolError_keeps hx _) fun _ => upd_frame fun _ => rfl

theorem dtmfRxInit_keeps : Keeps (Upholds s₀) (dtmfRxInit x) :=
  .ite (fun _ => protocolError_keeps hx _) fun _ => upd_frame fun _ => rfl

theorem dtmfTxStart_keeps : Keeps (Upholds s₀) (dtmfTxStart x) :=
  .ite (fun _ => protocolError_keeps hx _) fun _ => upd_frame fun _ => rfl

/-! ### The lifecycle procedures -/

theorem handleDisconnect_keeps (sig : Signal) (cause : Cause) : Keeps (Upholds s₀) (handleDisconnect x sig cause) :=
  .seq (upd_frame (watched_cancelEach (by decide)))
    (.seq mfRelease_keeps (.seq (upd_frame fun _ => rfl) (notify_keeps hx _)))

theorem endCall_keeps : Keeps (Upholds s₀) (endCall x) :=
  .seq (txSignal_keeps hx _) (.seq (upd_upholds resetBaseline_upholds) (notify_keeps hx _))

theorem clearForwardReceived_keeps : Keeps (Upholds s₀) (clearForwardReceived x) :=
  .seq (upd_upholds cancelAll_upholds) (.seq mfRelease_keeps (.seq (upd_frame fun _ => rfl) (notify_keeps hx _)))

theorem answerReceived_keeps : Keeps (Upholds s₀) (answerReceived x) :=
  .seq (upd_frame fun _ => rfl) (notify_keeps hx _)

theorem acceptThenAnswer_keeps (mode : Mode) : Keeps (Upholds s₀) (acceptThenAnswer x mode) :=
  .seq (cancel_keeps (by decide)) (.seq (upd_frame fun _ => rfl)
    (.bind (emitGuarded_keeps hx _) fun _ => .onlyIf (answerReceived_keeps hx)))

theorem convergeGlare_keeps : Keeps (Upholds s₀) (convergeGlare x) :=
  .look fun _ => .ite (fun _ => upd_frame fun _ => watched_arm (by decide) _) fun _ => endCall_keeps hx

theorem localClearForward_keeps : Keeps (Upholds s₀) (localClearForward x) :=
  .seq (txSignal_keeps hx _) (.seq (cancel_keeps (by decide)) (convergeGlare_keeps hx))

theorem acceptedNow_keeps : Keeps (Upholds s₀) (acceptedNow x) :=
  .seq (upd_frame fun _ => rfl) (.look fun _ => notify_keeps hx _)

theorem readyToAnswer_keeps : Keeps (Upholds s₀) (readyToAnswer x) :=
  .look fun _ => .ite (fun _ => acceptedNow_keeps hx) fun _ => arm_keeps (by decide)

theorem sendSeizeAck_keeps : Keeps (Upholds s₀) (sendSeizeAck x) :=
  .seq (txSignal_keeps hx _) (upd_frame fun _ => rfl)

/-! ### The backward side of the tone machine -/

theorem request_keeps (tone : Tone) (st : MfState) (pulse : Bool) : Keeps (Upholds s₀) (request x tone st pulse) :=
  .ite (fun _ => protocolError_keeps hx _) fun _ =>
    .seq (setTone_keeps hx _) (.seq (upd_frame fun _ => rfl) (arm_keeps (by cases pulse <;> decide)))

theorem requestDnis_keeps (pulse : Bool) : Keeps (Upholds s₀) (requestDnis x pulse) :=
  .look fun _ => .ite (fun _ => .seq (request_keeps hx _ _ _) (upd_frame fun _ => rfl)) fun _ => request_keeps hx _ _ _

theorem requestCategory_keeps (pulse : Bool) : Keeps (Upholds s₀) (requestCategory x pulse) :=
  .look fun _ => .ite (fun _ => .seq (request_keeps hx _ _ _) (upd_frame fun _ => rfl)) fun _ => request_keeps hx _ _ _

theorem requestAni_keeps (pulse : Bool) : Keeps (Upholds s₀) (requestAni x pulse) :=
  .look fun _ => request_keeps hx _ _ _

theorem finishCollection_keeps (pulse : Bool) : Keeps (Upholds s₀) (finishCollection x pulse) :=
  .look fun _ => .ite (fun _ => .seq (upd_frame fun _ => rfl) (request_keeps hx _ _ _)) fun _ => request_keeps hx _ _ _

theorem nextRequest_keeps (pulse : Bool) : Keeps (Upholds s₀) (nextRequest x pulse) := by
  refine .look fun s => ?_
  cases nextWanted s with
  | dnis => exact requestDnis_keeps hx pulse
  | category => exact requestCategory_keeps hx pulse
  | ani => exact requestAni_keeps hx pulse
  | finish => exact finishCollection_keeps hx pulse

/-- A register change and the next request: the end of most backward rules. -/
theorem upd_nextRequest_keeps {f : State → State} (pulse : Bool) (h : ∀ s, watched (f s) = watched s) :
    Keeps (Upholds s₀) (do upd f; nextRequest x pulse) := .seq (upd_frame h) (nextRequest_keeps hx pulse)

/-- A DNIS digit is stored only where there is room for it (R196). -/
theorem storeDnis_keeps (d : Digit) {s : State} (hs : Upholds s₀ s) (room : s.dnisLen < s.cfg.maxDnis.toNat) :
    Upholds s₀ (lastState (storeDnis x d s)) := by
  refine Keeps.bind (emitGuarded_keeps hx (.dnisDigitReceived d)) (fun r => ?_) (appendDnis d s)
    (hs.trans (appendDnis_upholds d room))
  cases r with
  | none => exact .pure _
  | some r => exact upd_nextRequest_keeps hx false (watched_closeDnisAfter _)

theorem closeDnis_keeps : Keeps (Upholds s₀) (closeDnis x) := upd_nextRequest_keeps hx false fun _ => rfl

theorem receiveDnis_keeps (t : Tone) : Keeps (Upholds s₀) (receiveDnis x t) := by
  refine .see_bind fun s hs => ?_
  cases toneDigit t with
  | some d =>
    by_cases room : s.dnisLen < s.cfg.maxDnis.toNat
    · simpa only [if_pos room] using storeDnis_keeps hx d hs room
    · simpa only [if_neg room] using closeDnis_keeps hx s hs
  | none => exact Keeps.ite (fun _ => closeDnis_keeps hx) (fun _ => protocolError_keeps hx _) s hs

theorem receiveCategory_keeps (t : Tone) : Keeps (Upholds s₀) (receiveCategory x t) :=
  .look fun _ => .ite (fun _ => upd_nextRequest_keeps hx false fun _ => rfl) fun _ => protocolError_keeps hx _

theorem afterAniDigit_keeps : Keeps (Upholds s₀) (afterAniDigit x) :=
  upd_nextRequest_keeps hx false watched_closeAniByCount

/-- An ANI digit is stored only where there is room for it (R203). -/
theorem storeAni_keeps (d : Digit) : Keeps (Upholds s₀) (storeAni x d) := by
  refine .see_bind fun s hs => ?_
  by_cases room : s.aniLen < s.cfg.maxAni.toNat
  · rw [if_pos room]
    exact Keeps.bind (emitGuarded_keeps hx _) (fun _ => .onlyIf (afterAniDigit_keeps hx)) (appendAni d s)
      (hs.trans (appendAni_upholds d room))
  · rw [if_neg room]
    exact afterAniDigit_keeps hx s hs

theorem receiveAni_keeps (t : Tone) : Keeps (Upholds s₀) (receiveAni x t) := by
  refine .look fun _ => .ite (fun _ => upd_nextRequest_keeps hx false fun _ => rfl) fun _ =>
    .ite (fun _ => upd_nextRequest_keeps hx false fun _ => rfl) fun _ => ?_
  cases toneDigit t with
  | some d => exact storeAni_keeps hx d
  | none => exact protocolError_keeps hx _

theorem receiveGroupII_keeps (t : Tone) : Keeps (Upholds s₀) (receiveGroupII x t) :=
  .look fun _ => .ite (fun _ => .seq (upd_frame fun _ => rfl) (notify_keeps hx _)) fun _ => protocolError_keeps hx _

theorem backwardGroupToneOn_keeps (t : Tone) (st : MfState) : Keeps (Upholds s₀) (backwardGroupToneOn x t st) := by
  cases st with
  | dnisRqTxd => exact receiveDnis_keeps hx t
  | categoryRqTxd => exact receiveCategory_keeps hx t
  | aniRqTxd => exact receiveAni_keeps hx t
  | chgGiiTxd => exact receiveGroupII_keeps hx t
  | _ => exact protocolError_keeps hx _

theorem firstForwardTone_keeps (t : Tone) : Keeps (Upholds s₀) (firstForwardTone x t) :=
  .look fun _ => .ite (fun _ => .seq (upd_frame fun _ => rfl) (receiveDnis_keeps hx t)) fun _ =>
    protocolError_keeps hx _

theorem backwardToneOnGroup_keeps (t : Tone) (st : MfState) (g : MfGroup) :
    Keeps (Upholds s₀) (backwardToneOnGroup x t st g) := by
  cases g with
  | backInit => exact firstForwardTone_keeps hx t
  | ga | gc => exact backwardGroupToneOn_keeps hx t st
  | dtmfBackInit => exact .pure _
  | _ => exact protocolError_keeps hx _

theorem backwardToneOn_keeps (t : Tone) : Keeps (Upholds s₀) (backwardToneOn x t) :=
  .seq (upd_frame (watched_cancelEach (by decide))) (.look fun _ => backwardToneOnGroup_keeps hx t _ _)

theorem offerCall_keeps : Keeps (Upholds s₀) (offerCall x) :=
  .seq (upd_frame fun _ => rfl) (.look fun _ => notify_keeps hx _)

theorem acceptToneDone_keeps : Keeps (Upholds s₀) (acceptToneDone x) :=
  .seq mfRelease_keeps (.seq (upd_frame fun _ => rfl)
    (.look fun _ => .ite (fun _ => offerCall_keeps hx) fun _ => readyToAnswer_keeps hx))

theorem disconnectToneDone_keeps : Keeps (Upholds s₀) (disconnectToneDone x) :=
  .seq (txSignal_keeps hx _) (.seq (cancel_keeps (by decide)) (.seq mfRelease_keeps (upd_frame fun _ => rfl)))

theorem backwardToneOffIn_keeps (st : MfState) : Keeps (Upholds s₀) (backwardToneOffIn x st) := by
  cases st with
  | disconnectTxd => exact disconnectToneDone_keeps hx
  | acceptedTxd => exact .seq (cancel_keeps (by decide)) (acceptToneDone_keeps hx)
  | seizeAckTxd | categoryRqTxd | dnisRqTxd | aniRqTxd | chgGiiTxd => exact setTone_keeps hx 0
  | detectingDtmf => exact .pure _
  | _ => exact protocolError_keeps hx _

theorem backwardToneOff_keeps : Keeps (Upholds s₀) (backwardToneOff x) := .look fun _ => backwardToneOffIn_keeps hx _

/-! ### The forward side of the tone machine -/

omit hx in
theorem dueDnis_keeps (i : Nat) : Keeps (Upholds s₀) (upd (dueDnis i)) := upd_frame (watched_dueDnis i)

omit hx in
theorem dueNextDnis_keeps : Keeps (Upholds s₀) (upd dueNextDnis) := upd_frame fun _ => watched_dueDnis _ _

omit hx in
theorem dueAni_keeps : Keeps (Upholds s₀) (upd dueAni) := upd_frame watched_dueAni

theorem sendDigit_keeps (d : Digit) : Keeps (Upholds s₀) (sendDigit x d) :=
  .ite (fun _ => protocolError_keeps hx _) fun _ => setTone_keeps hx _

theorem sendDnisDigit_keeps : Keeps (Upholds s₀) (sendDnisDigit x) :=
  .look fun _ => .bind (readDigit_keeps _ _) fun _ => sendDigit_keeps hx _

theorem sendAniDigit_keeps : Keeps (Upholds s₀) (sendAniDigit x) :=
  .look fun _ => .bind (readDigit_keeps _ _) fun _ => .seq (sendDigit_keeps hx _) (upd_frame fun _ => rfl)

theorem sendCategory_keeps : Keeps (Upholds s₀) (sendCategory x) :=
  .look fun _ => .seq (setTone_keeps hx _) (upd_frame fun _ => rfl)

theorem sendDueIn_keeps (s : State) (st : MfState) : Keeps (Upholds s₀) (sendDueIn x s st) := by
  cases st with
  | dnisTxd => exact sendDnisDigit_keeps hx
  | aniTxd => exact sendAniDigit_keeps hx
  | dnisEndTxd | aniEndTxd => exact setTone_keeps hx _
  | categoryTxd => exact sendCategory_keeps hx
  | waitingTimeout => exact .pure _
  | _ => exact protocolError_keeps hx _

theorem sendDue_keeps : Keeps (Upholds s₀) (sendDue x) := .look fun s => sendDueIn_keeps hx s _

theorem forwardStart_keeps : Keeps (Upholds s₀) (forwardStart x) :=
  .seq (upd_frame fun _ => rfl) (.seq (dueDnis_keeps 0) (sendDue_keeps hx))

theorem offsetDnis_keeps (k : Nat) : Keeps (Upholds s₀) (offsetDnis x k) :=
  .look fun _ => .ite (fun _ => protocolError_keeps hx _) fun _ => dueDnis_keeps _

theorem acceptSeen_keeps (mode : Mode) : Keeps (Upholds s₀) (acceptSeen x mode) :=
  .seq (upd_frame fun _ => rfl) (.look fun _ => .ite (fun _ => acceptThenAnswer_keeps hx mode) fun _ =>
    .seq (upd_frame fun _ => watched_arm (by decide) _) (notify_keeps hx _))

theorem mfDisconnect_keeps (cause : Cause) : Keeps (Upholds s₀) (mfDisconnect x cause) :=
  .seq (cancel_keeps (by decide)) (.seq (upd_frame fun _ => rfl) (notify_keeps hx _))

theorem decodeGroupA_keeps (t : Tone) : Keeps (Upholds s₀) (decodeGroupA x t) :=
  .look fun _ =>
    .ite (fun _ => dueNextDnis_keeps) fun _ =>
    .ite (fun _ => offsetDnis_keeps hx 1) fun _ =>
    .ite (fun _ => offsetDnis_keeps hx 2) fun _ =>
    .ite (fun _ => offsetDnis_keeps hx 3) fun _ =>
    .ite (fun _ => dueDnis_keeps 0) fun _ =>
    .ite (fun _ => upd_frame fun _ => rfl) fun _ =>
    .ite (fun _ => upd_frame fun _ => rfl) fun _ =>
    .ite (fun _ => dueAni_keeps) fun _ =>
    .ite (fun _ => upd_frame fun _ => rfl) fun _ =>
    .ite (fun _ => upd_frame fun _ => rfl) fun _ =>
    .ite (fun _ => acceptSeen_keeps hx _) fun _ =>
    .ite (fun _ => mfDisconnect_keeps hx _) fun _ => protocolError_keeps hx _

theorem decodeGroupC_keeps (t : Tone) : Keeps (Upholds s₀) (decodeGroupC x t) :=
  .look fun _ =>
    .ite (fun _ => dueAni_keeps) fun _ =>
    .ite (fun _ => upd_frame fun _ => rfl) fun _ =>
    .ite (fun _ => upd_frame fun _ => watched_dueDnis _ _) fun _ =>
    .ite (fun _ => mfDisconnect_keeps hx _) fun _ => protocolError_keeps hx _

theorem decodeGroupB_keeps (t : Tone) : Keeps (Upholds s₀) (decodeGroupB x t) :=
  .look fun _ =>
    .ite (fun _ => acceptSeen_keeps hx _) fun _ =>
    .ite (fun _ => acceptSeen_keeps hx _) fun _ =>
    .ite (fun _ => acceptSeen_keeps hx _) fun _ =>
    .ite (fun _ => mfDisconnect_keeps hx _) fun _ =>
    .ite (fun _ => mfDisconnect_keeps hx _) fun _ =>
    .ite (fun _ => mfDisconnect_keeps hx _) fun _ =>
    .ite (fun _ => mfDisconnect_keeps hx _) fun _ =>
    .ite (fun _ => mfDisconnect_keeps hx _) fun _ =>
    .ite (fun _ => mfDisconnect_keeps hx _) fun _ => protocolError_keeps hx _

theorem forwardToneOnGroup_keeps (t : Tone) (g : MfGroup) : Keeps (Upholds s₀) (forwardToneOnGroup x t g) := by
  cases g with
  | gi => exact decodeGroupA_keeps hx t
  | gii => exact decodeGroupB_keeps hx t
  | giii => exact decodeGroupC_keeps hx t
  | _ => exact protocolError_keeps hx _

theorem forwardToneOn_keeps (t : Tone) : Keeps (Upholds s₀) (forwardToneOn x t) :=
  .seq (cancel_keeps (by decide)) (.seq (setTone_keeps hx 0) (.look fun _ =>
    .ite (fun _ => protocolError_keeps hx _) fun _ => forwardToneOnGroup_keeps hx t _))

theorem forwardToneOff_keeps : Keeps (Upholds s₀) (forwardToneOff x) :=
  .look fun _ => .ite (fun _ => mfRelease_keeps) fun _ => sendDue_keeps hx

/-! ### TONE_ON, TONE_OFF, DTMF_DIGIT -/

theorem bySide_keeps {backward forward : Act Unit} (hb : Keeps (Upholds s₀) backward)
    (hf : Keeps (Upholds s₀) forward) (d : Direction) : Keeps (Upholds s₀) (bySide x backward forward d) := by
  cases d with
  | backward => exact hb
  | forward => exact hf
  | stopped | unassigned => exact protocolError_keeps hx _

theorem newTone_keeps (t : Tone) : Keeps (Upholds s₀) (newTone x t) :=
  .seq (upd_frame fun _ => rfl) (.look fun _ =>
    .seq (bySide_keeps hx (backwardToneOn_keeps hx t) (forwardToneOn_keeps hx t) _) (status_keeps _))

theorem toneOn_keeps (t : Tone) : Keeps (Upholds s₀) (toneOn t x) :=
  .look fun _ => .ite (fun _ => status_keeps _) fun _ => .ite (fun _ => status_keeps _) fun _ =>
    .ite (fun _ => status_keeps _) fun _ => .ite (fun _ => protocolError_keeps hx _) fun _ => newTone_keeps hx t

theorem toneEnded_keeps : Keeps (Upholds s₀) (toneEnded x) :=
  .seq (upd_frame fun _ => rfl) (.look fun _ =>
    .seq (bySide_keeps hx (backwardToneOff_keeps hx) (forwardToneOff_keeps hx) _) (status_keeps _))

theorem toneOff_keeps : Keeps (Upholds s₀) (toneOff x) :=
  .look fun _ => .ite (fun _ => status_keeps _) fun _ => .ite (fun _ => status_keeps _) fun _ =>
    .ite (fun _ => status_keeps _) fun _ => toneEnded_keeps hx

theorem dtmfCollected_keeps : Keeps (Upholds s₀) (dtmfCollected x) :=
  .seq (upd_frame fun _ => rfl) (notify_keeps hx _)

theorem afterDtmfDigit_keeps (stop : Bool) : Keeps (Upholds s₀) (afterDtmfDigit x stop) :=
  .look fun _ => .ite (fun _ => .pure _) fun _ => dtmfCollected_keeps hx

/-- A DTMF digit is stored only where there is room for it (R230). -/
theorem receiveDtmf_keeps (d : Digit) : Keeps (Upholds s₀) (receiveDtmf x d) := by
  refine .see_bind fun s hs => ?_
  by_cases room : s.dnisLen < s.cfg.maxDnis.toNat
  · rw [if_pos room]
    refine Keeps.bind (emitGuarded_keeps hx (.dnisDigitReceived d)) (fun r => ?_) (appendDnis d s)
      (hs.trans (appendDnis_upholds d room))
    cases r with
    | none => exact .pure _
    | some r => exact afterDtmfDigit_keeps hx _
  · rw [if_neg room]
    exact dtmfCollected_keeps hx s hs

theorem firstDtmfDigit_keeps (d : Digit) : Keeps (Upholds s₀) (firstDtmfDigit x d) :=
  .look fun _ => .ite (fun _ => .seq (upd_frame fun _ => rfl) (receiveDtmf_keeps hx d)) fun _ => .pure _

theorem dtmfDigitIn_keeps (d : Digit) (st : MfState) (g : MfGroup) : Keeps (Upholds s₀) (dtmfDigitIn x d st g) := by
  cases g with
  | backInit => exact firstDtmfDigit_keeps hx d
  | dtmfBackInit => exact .ite (fun _ => receiveDtmf_keeps hx d) fun _ => .pure _
  | _ => exact .pure _

theorem dtmfDigit_keeps (d : Digit) : Keeps (Upholds s₀) (dtmfDigit d x) :=
  .look fun _ => .ite (fun _ => status_keeps _) fun _ => .ite (fun _ => status_keeps _) fun _ =>
    .seq (dtmfDigitIn_keeps hx d _ _) (status_keeps _)

/-! ### The line machine -/

theorem startDetector_keeps : Keeps (Upholds s₀) (startDetector x) := .look fun _ => .onlyIf (dtmfRxInit_keeps hx)

theorem autoSeizeAck_keeps : Keeps (Upholds s₀) (autoSeizeAck x) := .look fun _ => .onlyIf (sendSeizeAck_keeps hx)

theorem incomingCall_keeps : Keeps (Upholds s₀) (incomingCall x) :=
  .seq (startDetector_keeps hx) (.seq (mfInit_keeps hx) (.seq (upd_frame fun _ => rfl)
    (.seq (autoSeizeAck_keeps hx) (notify_keeps hx _))))

theorem startExchange_keeps : Keeps (Upholds s₀) (startExchange x) :=
  .look fun _ => .ite
    (fun _ => upd_frame fun _ => (watched_arm (by decide) _).trans (watched_arm (by decide) _))
    fun _ => .seq (mfInit_keeps hx) (.seq (upd_frame fun _ => rfl) (forwardStart_keeps hx))

theorem seizeAcknowledged_keeps : Keeps (Upholds s₀) (seizeAcknowledged x) :=
  .seq (cancel_keeps (by decide)) (.seq (upd_frame fun _ => rfl) (.seq (startExchange_keeps hx) (notify_keeps hx _)))

theorem glareDetected_keeps : Keeps (Upholds s₀) (glareDetected x) :=
  .seq (cancel_keeps (by decide)) (.seq (upd_frame fun _ => watched_arm (by decide) _) (notify_keeps hx _))

theorem disconnectSeen_keeps (r : LineCode) : Keeps (Upholds s₀) (disconnectSeen x r) := by
  refine .look fun s => ?_
  cases classify s.cfg r with
  | some p => exact handleDisconnect_keeps hx p.1 p.2
  | none => exact .pure _

theorem answerBeforeAccept_keeps : Keeps (Upholds s₀) (answerBeforeAccept x) :=
  .look fun _ => .ite (fun _ => acceptThenAnswer_keeps hx _) fun _ => upd_frame fun _ => rfl

theorem answerAfterAccept_keeps : Keeps (Upholds s₀) (answerAfterAccept x) :=
  .seq (cancel_keeps (by decide)) (.seq (upd_frame fun _ => rfl) (notify_keeps hx _))

theorem meterOrDisconnect_keeps (r : LineCode) : Keeps (Upholds s₀) (meterOrDisconnect x r) :=
  .look fun _ => .ite (fun _ => .onlyIf (arm_keeps (by decide))) fun _ => disconnectSeen_keeps hx r

theorem billingPulse_keeps : Keeps (Upholds s₀) (billingPulse x) :=
  .seq (cancel_keeps (by decide)) (notify_keeps hx _)

theorem answerReturned_keeps : Keeps (Upholds s₀) (answerReturned x) := .look fun _ => .onlyIf (billingPulse_keeps hx)

theorem actIdle_keeps (sig : Signal) : Keeps (Upholds s₀) (actIdle x sig) := by
  cases sig with
  | idle | block => exact notify_keeps hx _
  | seize => exact incomingCall_keeps hx
  | _ => exact .pure _

theorem actBlocked_keeps (sig : Signal) : Keeps (Upholds s₀) (actBlocked x sig) := by
  cases sig with
  | idle | block => exact notify_keeps hx _
  | _ => exact .pure _

theorem actBackwardCall_keeps (sig : Signal) : Keeps (Upholds s₀) (actBackwardCall x sig) := by
  cases sig with
  | clearForward => exact clearForwardReceived_keeps hx
  | _ => exact .pure _

theorem actClearBackTxd_keeps (sig : Signal) : Keeps (Upholds s₀) (actClearBackTxd x sig) := by
  cases sig with
  | clearForward => exact endCall_keeps hx
  | _ => exact .pure _

theorem actSeizeTxd_keeps (sig : Signal) : Keeps (Upholds s₀) (actSeizeTxd x sig) := by
  cases sig with
  | seizeAck => exact seizeAcknowledged_keeps hx
  | seize => exact glareDetected_keeps hx
  | _ => exact .pure _

theorem actSeizeAckRxd_keeps (r : LineCode) (sig : Signal) : Keeps (Upholds s₀) (actSeizeAckRxd x r sig) := by
  cases sig with
  | answer => exact answerBeforeAccept_keeps hx
  | clearBack | forcedRelease => exact disconnectSeen_keeps hx r
  | _ => exact .pure _

theorem actAcceptRxd_keeps (r : LineCode) (sig : Signal) : Keeps (Upholds s₀) (actAcceptRxd x r sig) := by
  cases sig with
  | answer => exact answerAfterAccept_keeps hx
  | clearBack | forcedRelease => exact disconnectSeen_keeps hx r
  | _ => exact .pure _

theorem actAnswerRxdMfPending_keeps (r : LineCode) (sig : Signal) :
    Keeps (Upholds s₀) (actAnswerRxdMfPending x r sig) := by
  cases sig with
  | clearBack | forcedRelease => exact disconnectSeen_keeps hx r
  | _ => exact .pure _

theorem actAnswerRxd_keeps (r : LineCode) (sig : Signal) : Keeps (Upholds s₀) (actAnswerRxd x r sig) := by
  cases sig with
  | answer => exact answerReturned_keeps hx
  | clearBack | forcedRelease => exact meterOrDisconnect_keeps hx r
  | _ => exact .pure _

theorem actClearForwardTxd_keeps (sig : Signal) : Keeps (Upholds s₀) (actClearForwardTxd x sig) := by
  cases sig with
  | idle => exact endCall_keeps hx
  | _ => exact .pure _

omit hx in
theorem actDoubleSeizure_keeps (sig : Signal) : Keeps (Upholds s₀) (actDoubleSeizure sig) := by
  cases sig with
  | clearForward => exact upd_frame fun _ => rfl
  | _ => exact .pure _

theorem act_keeps (r : LineCode) (sig : Signal) (st : CasState) : Keeps (Upholds s₀) (act x r sig st) := by
  cases st with
  | init | idle => exact actIdle_keeps hx sig
  | blocked => exact actBlocked_keeps hx sig
  | seizeRxd | seizeAckTxd | answerTxd | executingDoubleAnswer => exact actBackwardCall_keeps hx sig
  | clearBackTxd => exact actClearBackTxd_keeps hx sig
  | seizeTxd => exact actSeizeTxd_keeps hx sig
  | seizeAckRxd => exact actSeizeAckRxd_keeps hx r sig
  | acceptRxd => exact actAcceptRxd_keeps hx r sig
  | answerRxdMfPending => exact actAnswerRxdMfPending_keeps hx r sig
  | answerRxd => exact actAnswerRxd_keeps hx r sig
  | clearForwardTxd => exact actClearForwardTxd_keeps hx sig
  | doubleSeizure => exact actDoubleSeizure_keeps sig
  | _ => exact .pure _

theorem runTable_keeps : Keeps (Upholds s₀) (runTable x) := by
  refine .look fun s => .ite (fun _ => protocolError_keeps hx _) fun _ => ?_
  cases s.rxSig with
  | none => exact protocolError_keeps hx _
  | some sig => exact act_keeps hx _ sig _

theorem commit_keeps (raw : LineCode) : Keeps (Upholds s₀) (commit x raw) :=
  .seq (upd_upholds (recordSample_upholds raw)) (runTable_keeps hx)

/-- The code that starts to wait is the sample masked with the configuration of the same state. -/
theorem lineSample_keeps (raw : LineCode) : Keeps (Upholds s₀) (lineSample x raw) := by
  refine .see_bind fun s hs => ?_
  split_ifs
  · exact upd_upholds lineReverted_upholds s hs
  · exact hs
  · exact hs.trans (startDebounce_upholds (maskCode_maskCode s.cfg raw))
  · exact commit_keeps hx raw s hs

theorem lineChanged_keeps : Keeps (Upholds s₀) (lineChanged x) :=
  .bind (getLine_keeps hx) fun _ => .seq (lineSample_keeps hx _) (status_keeps _)

theorem lineOp_keeps : Keeps (Upholds s₀) (lineOp x) :=
  .look fun _ => .ite (fun _ => status_keeps _) fun _ => lineChanged_keeps hx

/-! ### Expiries of the call timers -/

theorem expireSeize_keeps : Keeps (Upholds s₀) (expireSeize x) :=
  .look fun _ => .ite (fun _ => protocolError_keeps hx _) fun _ => protocolError_keeps hx _

theorem expireSeizePersist_keeps : Keeps (Upholds s₀) (expireSeizePersist x) :=
  .look fun _ => .ite (fun _ => localClearForward_keeps hx) fun _ => protocolError_keeps hx _

theorem noAnswer_keeps : Keeps (Upholds s₀) (noAnswer x) :=
  .seq (txSignal_keeps hx _) (.seq (cancel_keeps (by decide)) (.seq mfRelease_keeps
    (.seq (upd_frame fun _ => watched_arm (by decide) _) (notify_keeps hx _))))

theorem expireAnswer_keeps : Keeps (Upholds s₀) (expireAnswer x) :=
  .look fun _ => .ite (fun _ => noAnswer_keeps hx) fun _ => protocolError_keeps hx _

theorem expireAnswerDelay_keeps : Keeps (Upholds s₀) (expireAnswerDelay x) :=
  .look fun _ => .ite (fun _ => acceptedNow_keeps hx) fun _ => protocolError_keeps hx _

theorem toggleOff_keeps : Keeps (Upholds s₀) (toggleOff x) := .seq (txSignal_keeps hx _) (arm_keeps (by decide))

theorem toggleOn_keeps : Keeps (Upholds s₀) (toggleOn x) := .seq (txSignal_keeps hx _) (upd_frame fun _ => rfl)

theorem expireDoubleAnswer_keeps : Keeps (Upholds s₀) (expireDoubleAnswer x) :=
  .look fun _ => .ite (fun _ => protocolError_keeps hx _) fun _ => .ite (fun _ => toggleOff_keeps hx) fun _ =>
    .ite (fun _ => toggleOn_keeps hx) fun _ => protocolError_keeps hx _

theorem expireMeteringPulse_keeps : Keeps (Upholds s₀) (expireMeteringPulse x) := by
  refine .look fun s => .ite (fun _ => protocolError_keeps hx _) fun _ => ?_
  cases classify s.cfg s.rxCode with
  | some p => exact handleDisconnect_keeps hx p.1 p.2
  | none => exact protocolError_keeps hx _

theorem expireMfBackCycle_keeps : Keeps (Upholds s₀) (expireMfBackCycle x) :=
  .look fun _ => .ite (fun _ => upd_nextRequest_keeps hx true fun _ => rfl) fun _ =>
    .ite (fun _ => upd_nextRequest_keeps hx true fun _ => rfl) fun _ => protocolError_keeps hx _

theorem expireMfBackResumeCycle_keeps : Keeps (Upholds s₀) (expireMfBackResumeCycle x) :=
  .seq (setTone_keeps hx 0) (.look fun _ => .ite (fun _ => acceptToneDone_keeps hx) fun _ => arm_keeps (by decide))

theorem startDialing_keeps : Keeps (Upholds s₀) (startDialing x) :=
  .seq (dtmfTxStart_keeps hx) (upd_frame fun _ => rfl)

theorem expireDtmfStartDial_keeps : Keeps (Upholds s₀) (expireDtmfStartDial x) :=
  .look fun _ => .ite (fun _ => startDialing_keeps hx) fun _ => protocolError_keeps hx _

omit hx in
/-- The gate of TIMER_EXP (R244): the effect need only be considered where the timer has fired. -/
theorem timerExp_keeps (t : Timer) {effect : Ctx → Act Unit}
    (h : ∀ s, Upholds s₀ s → Upholds s₀ (lastState (effect x (disarm t s)))) :
    Keeps (Upholds s₀) (timerExp t effect x) :=
  .look fun _ => .ite (fun _ => status_keeps _) fun _ => .ite (fun _ => status_keeps _) fun _ s hs =>
    Keeps.bind_at (m := effect x) (s := disarm t s) (h s hs) fun _ => status_keeps _

omit hx in
/-- The expiry of a timer that R34 does not speak of. -/
theorem callTimerExp_keeps {t : Timer} (ht : t ≠ .casPersistenceCheck) {effect : Ctx → Act Unit}
    (h : Keeps (Upholds s₀) (effect x)) : Keeps (Upholds s₀) (timerExp t effect x) :=
  timerExp_keeps t fun s hs => h _ (hs.trans (.of_watched (watched_disarm ht s)))

/-! ### The expiry of the persistence check -/

/-- Between the bit cleared by the gate and the end of the rule's first change R34 is broken. Each branch mends it: a
failed read and a discarded change forget the pending code, a commit too (R261). -/
theorem expireCasPersistenceCheck_keeps {s : State} (hs : Upholds s₀ s) :
    Upholds s₀ (lastState (expireCasPersistenceCheck x (disarm .casPersistenceCheck s))) := by
  have hforgotten := hs.trans (clearPending_disarm_upholds s)
  have hcommitted := hs.trans
    (recordSample_upholds_of x.env.line (s' := disarm .casPersistenceCheck s) rfl rfl rfl rfl)
  unfold expireCasPersistenceCheck
  split
  · exact ioError_keeps hx .lineRead _ hforgotten
  · unfold persistenceDecided
    rw [see_bind]
    split
    · exact runTable_keeps hx _ hcommitted
    · exact lineSample_keeps hx _ _ hforgotten

/-! ### Call control -/

omit hx in
theorem stageClr_keeps (x : Ctx) : Keeps (Upholds s₀) (stageClr x) := .seq (upd_frame fun _ => rfl) (status_keeps _)

omit hx in
theorem stageAni_keeps (x : Ctx) (d : Digit) : Keeps (Upholds s₀) (stageAni d x) :=
  .look fun _ => .ite (fun _ => status_keeps _) fun _ => .seq (upd_frame fun _ => rfl) (status_keeps _)

omit hx in
theorem stageDnis_keeps (x : Ctx) (d : Digit) : Keeps (Upholds s₀) (stageDnis d x) :=
  .look fun _ => .ite (fun _ => status_keeps _) fun _ => .seq (upd_frame fun _ => rfl) (status_keeps _)

omit hx in
/-- The part of MAKE_CALL's guard that R51 rests on (R272). -/
theorem makeCallGuard_lengths {category : Category} {s : State} (h : makeCallGuard category s = true) :
    s.stageAniLen ≤ s.cfg.maxAni.toNat ∧ s.stageDnisLen ≤ s.cfg.maxDnis.toNat := by
  simp only [makeCallGuard, Bool.and_eq_true, decide_eq_true_eq] at h
  obtain ⟨⟨⟨_, hani⟩, hdnis⟩, _⟩ := h
  exact ⟨hani, hdnis⟩

omit hx in
/-- Nothing runs after an I/O failure (R338). -/
theorem ioError_bind {β : Type} (what : OsError) (f : α → Act β) : (ioError x what >>= f) = ioError x what := by
  unfold ioError
  rw [bind_assoc]
  rfl

/-- A line write, then the rest of the rule: the rest runs only in the state after a write that worked (R134, R336). -/
theorem txSignal_bind_keeps (sig : Signal) {f : Unit → Act Unit} {s : State} (hs : Upholds s₀ s)
    (h : Upholds s₀ (lastState (f () (writeLine sig s)))) : Upholds s₀ (lastState ((txSignal x sig >>= f) s)) := by
  unfold txSignal
  rw [ite_bind]
  split
  · rw [ioError_bind]
    exact ioError_keeps hx _ s hs
  · exact h

theorem makeCall_keeps (category : Category) (restricted : Bool) :
    Keeps (Upholds s₀) (makeCall category restricted x) := by
  refine .see_bind fun s hs => ?_
  split
  next guard =>
    obtain ⟨hani, hdnis⟩ := makeCallGuard_lengths guard
    have hwrite : Upholds s (writeLine .seize s) := .of_watched rfl
    have hopen := hwrite.trans (openCall_upholds category restricted hani hdnis)
    exact txSignal_bind_keeps hx .seize hs
      (Keeps.seq (arm_keeps (by decide)) (status_keeps _) _ (hs.trans hopen))
  next => exact status_keeps _ s hs

theorem ackCall_keeps : Keeps (Upholds s₀) (ackCall x) :=
  .look fun _ => .ite (fun _ => .seq (sendSeizeAck_keeps hx) (status_keeps _)) fun _ => status_keeps _

theorem acceptByTone_keeps (mode : Mode) : Keeps (Upholds s₀) (acceptByTone mode x) :=
  .look fun _ => .ite (fun _ => status_keeps _) fun _ =>
    .seq (setTone_keeps hx _) (.seq (upd_frame fun _ => watched_arm (by decide) _) (status_keeps _))

theorem acceptDtmf_keeps (mode : Mode) : Keeps (Upholds s₀) (acceptDtmf mode x) :=
  .seq mfRelease_keeps (.seq (upd_frame fun _ => rfl) (.seq (acceptedNow_keeps hx) (status_keeps _)))

theorem acceptAgain_keeps : Keeps (Upholds s₀) (acceptAgain x) := .seq (readyToAnswer_keeps hx) (status_keeps _)

theorem acceptCall_keeps (mode : Mode) : Keeps (Upholds s₀) (acceptCall mode x) :=
  .look fun _ => .ite (fun _ => status_keeps _) fun _ => .ite (fun _ => acceptByTone_keeps hx mode) fun _ =>
    .ite (fun _ => acceptDtmf_keeps hx mode) fun _ => acceptAgain_keeps hx

theorem answerTx_keeps (double : Bool) : Keeps (Upholds s₀) (answerTx double x) :=
  .seq (txSignal_keeps hx _) (.seq (cancel_keeps (by decide)) (.seq mfRelease_keeps (.seq (upd_frame fun _ => rfl)
    (.seq (upd_frame (watched_answerSent double)) (upd_frame fun _ => rfl)))))

theorem guardedAnswer_keeps (double : Bool) : Keeps (Upholds s₀) (guardedAnswer double x) :=
  .look fun _ => .ite (fun _ => .seq (answerTx_keeps hx double) (status_keeps _)) fun _ => status_keeps _

theorem answerCall_keeps : Keeps (Upholds s₀) (answerCall x) := .look fun _ => guardedAnswer_keeps hx _

theorem disconnectByTone_keeps (cause : Cause) : Keeps (Upholds s₀) (disconnectByTone cause x) :=
  .look fun _ => .seq (setTone_keeps hx _) (upd_frame fun _ => watched_arm (by decide) _)

theorem disconnectByLine_keeps (cause : Cause) : Keeps (Upholds s₀) (disconnectByLine cause x) :=
  .look fun _ => .seq (txSignal_keeps hx _) (.seq (upd_frame watched_cancelCallTimers)
    (.seq mfRelease_keeps (upd_frame fun _ => rfl)))

theorem disconnectBackward_keeps (cause : Cause) : Keeps (Upholds s₀) (disconnectBackward cause x) :=
  .look fun _ => .ite (fun _ => disconnectByTone_keeps hx cause) fun _ => disconnectByLine_keeps hx cause

theorem clearForward_keeps : Keeps (Upholds s₀) (clearForward x) :=
  .seq (txSignal_keeps hx _) (.seq (upd_frame watched_cancelCallTimers)
    (.seq mfRelease_keeps (upd_frame fun _ => watched_arm (by decide) _)))

theorem disconnectForward_keeps : Keeps (Upholds s₀) (disconnectForward x) :=
  .look fun _ => .ite (fun _ => localClearForward_keeps hx) fun _ => clearForward_keeps hx

omit hx in
theorem thenOk_keeps {m : Act Unit} (h : Keeps (Upholds s₀) m) : Keeps (Upholds s₀) (thenOk m) :=
  .seq h (status_keeps _)

theorem disconnectByDirection_keeps (cause : Cause) (d : Direction) :
    Keeps (Upholds s₀) (disconnectByDirection cause x d) := by
  cases d with
  | backward => exact thenOk_keeps (disconnectBackward_keeps hx cause)
  | forward => exact thenOk_keeps (disconnectForward_keeps hx)
  | stopped | unassigned => exact status_keeps _

theorem disconnectCall_keeps (cause : Cause) : Keeps (Upholds s₀) (disconnectCall cause x) :=
  .look fun _ => .ite (fun _ => status_keeps _) fun _ => .ite (fun _ => status_keeps _) fun _ =>
    .ite (fun _ => thenOk_keeps (endCall_keeps hx)) fun _ => disconnectByDirection_keeps hx cause _

theorem setIdle_keeps : Keeps (Upholds s₀) (setIdle x) :=
  .seq (txSignal_keeps hx _) (.seq (upd_upholds resetBaseline_upholds) (status_keeps _))

theorem setBlocked_keeps : Keeps (Upholds s₀) (setBlocked x) :=
  .seq (txSignal_keeps hx _) (.seq (upd_upholds resetBaseline_upholds) (.seq (upd_frame fun _ => rfl) (status_keeps _)))

omit hx in
theorem alarmRaise_keeps : Keeps (Upholds s₀) (alarmRaise x) :=
  .look fun _ => .ite (fun _ => status_keeps _) fun _ => .seq (upd_upholds freeze_upholds) (status_keeps _)

theorem dropPendingCall_keeps : Keeps (Upholds s₀) (dropPendingCall x) := .look fun _ => .onlyIf (errorPath_keeps hx _)

theorem resync_keeps : Keeps (Upholds s₀) (resync x) :=
  .bind (getLine_keeps hx) fun _ => .seq (upd_frame fun _ => rfl) (.seq (dropPendingCall_keeps hx)
    (.seq (lineSample_keeps hx _) (status_keeps _)))

theorem alarmClear_keeps : Keeps (Upholds s₀) (alarmClear x) :=
  .look fun _ => .ite (fun _ => resync_keeps hx) fun _ => status_keeps _

theorem alarm_keeps (raised : Bool) : Keeps (Upholds s₀) (alarm raised x) :=
  .ite (fun _ => alarmRaise_keeps) fun _ => alarmClear_keeps hx

/-! ### Nested operations -/

theorem nestedOperation_keeps (i : Instr) : Keeps (Upholds s₀) (nestedOperation x i) := by
  cases i with
  | makeCall category restricted _ => exact makeCall_keeps hx category restricted
  | acceptCall mode _ => exact acceptCall_keeps hx mode
  | answerCall _ => exact answerCall_keeps hx
  | answerCallMode double _ => exact guardedAnswer_keeps hx double
  | disconnectCall cause _ => exact disconnectCall_keeps hx cause
  | ackCall _ => exact ackCall_keeps hx
  | setIdle _ => exact setIdle_keeps hx
  | setBlocked _ => exact setBlocked_keeps hx
  | alarm raised _ => exact alarm_keeps hx raised
  | stageClr _ => exact stageClr_keeps x
  | stageAni digit _ => exact stageAni_keeps x digit
  | stageDnis digit _ => exact stageDnis_keeps x digit
  | _ => exact .pure _

theorem nestedWord_keeps (w : OpBits) : Keeps (Upholds s₀) (nestedWord x w) := by
  unfold nestedWord
  split
  · exact nestedOperation_keeps hx _
  · exact .pure _

end Rules

/-- Every level of re-entry keeps it, by induction on the levels that may still be entered (R316). -/
theorem reenter_keeps (s₀ : State) (env : Env) (n : Nat) :
    NestedUphold s₀ { env := env, reenter := reenter env n } := by
  induction n with
  | zero => exact fun _ => .pure _
  | succ n ih => exact nestedWord_keeps ih

theorem topCtx_keeps (s₀ : State) (env : Env) : NestedUphold s₀ (topCtx env) := reenter_keeps s₀ env _

/-! ### Operations and steps -/

theorem runTop_upholds {env : Env} {op : Ctx → Act Unit} {s t : State}
    (hop : NestedUphold s (topCtx env) → Keeps (Upholds s) (op (topCtx env))) (h : runTop env op s = .next t) :
    Upholds s t :=
  Keeps.runTop (hop (topCtx_keeps s env)) (fun _ hs => hs.trans (.of_watched rfl))
    (fun _ hs => hs.trans (.of_watched rfl)) (.refl s) h

theorem illegalWord_upholds {s t : State} (h : illegalWord s = .next t) : Upholds s t := by
  cases h
  exact .of_watched rfl

theorem execToneOn_upholds {tone : Tone} {env : Env} {s t : State} (h : execToneOn tone env s = .next t) :
    Upholds s t := by
  unfold execToneOn at h
  split at h
  · exact runTop_upholds (fun hx => toneOn_keeps hx tone) h
  · exact illegalWord_upholds h

/-- Every operation, from every state. -/
theorem exec_upholds {i : Instr} {s t : State} (h : exec i s = .next t) : Upholds s t := by
  cases i with
  | line _ => exact runTop_upholds lineOp_keeps h
  | toneOn _ _ => exact execToneOn_upholds h
  | toneOff _ => exact runTop_upholds toneOff_keeps h
  | dtmfDigit digit _ => exact runTop_upholds (fun hx => dtmfDigit_keeps hx digit) h
  | timerExpSeize _ => exact runTop_upholds (fun hx => callTimerExp_keeps (by decide) (expireSeize_keeps hx)) h
  | timerExpSeizePersist _ =>
    exact runTop_upholds (fun hx => callTimerExp_keeps (by decide) (expireSeizePersist_keeps hx)) h
  | timerExpAnswer _ => exact runTop_upholds (fun hx => callTimerExp_keeps (by decide) (expireAnswer_keeps hx)) h
  | timerExpAnswerDelay _ =>
    exact runTop_upholds (fun hx => callTimerExp_keeps (by decide) (expireAnswerDelay_keeps hx)) h
  | timerExpDoubleAnswer _ =>
    exact runTop_upholds (fun hx => callTimerExp_keeps (by decide) (expireDoubleAnswer_keeps hx)) h
  | timerExpSetCallDown _ => exact runTop_upholds (fun hx => callTimerExp_keeps (by decide) (endCall_keeps hx)) h
  | timerExpMeteringPulse _ =>
    exact runTop_upholds (fun hx => callTimerExp_keeps (by decide) (expireMeteringPulse_keeps hx)) h
  | timerExpMfBackCycle _ =>
    exact runTop_upholds (fun hx => callTimerExp_keeps (by decide) (expireMfBackCycle_keeps hx)) h
  | timerExpMfBackResumeCycle _ =>
    exact runTop_upholds (fun hx => callTimerExp_keeps (by decide) (expireMfBackResumeCycle_keeps hx)) h
  | timerExpMfFwdSafety _ =>
    exact runTop_upholds (fun hx => callTimerExp_keeps (by decide) (protocolError_keeps hx _)) h
  | timerExpDtmfStartDial _ =>
    exact runTop_upholds (fun hx => callTimerExp_keeps (by decide) (expireDtmfStartDial_keeps hx)) h
  | timerExpCasPersistenceCheck _ =>
    exact runTop_upholds (fun hx => timerExp_keeps _ fun _ hs => expireCasPersistenceCheck_keeps hx hs) h
  | makeCall category restricted _ => exact runTop_upholds (fun hx => makeCall_keeps hx category restricted) h
  | acceptCall mode _ => exact runTop_upholds (fun hx => acceptCall_keeps hx mode) h
  | answerCall _ => exact runTop_upholds answerCall_keeps h
  | answerCallMode double _ => exact runTop_upholds (fun hx => guardedAnswer_keeps hx double) h
  | disconnectCall cause _ => exact runTop_upholds (fun hx => disconnectCall_keeps hx cause) h
  | ackCall _ => exact runTop_upholds ackCall_keeps h
  | setIdle _ => exact runTop_upholds setIdle_keeps h
  | setBlocked _ => exact runTop_upholds setBlocked_keeps h
  | alarm raised _ => exact runTop_upholds (fun hx => alarm_keeps hx raised) h
  | stageClr env => exact runTop_upholds (env := env) (fun _ => stageClr_keeps (topCtx env)) h
  | stageAni digit env => exact runTop_upholds (env := env) (fun _ => stageAni_keeps (topCtx env) digit) h
  | stageDnis digit env => exact runTop_upholds (env := env) (fun _ => stageDnis_keeps (topCtx env) digit) h

theorem react_upholds {w : OpBits} {s t : State} (h : react w s = .next t) : Upholds s t := by
  unfold react at h
  split at h
  · exact exec_upholds h
  · exact illegalWord_upholds h

theorem fetch_watched {s s' : State} {w : OpBits} (h : fetch s = some (w, s')) : watched s' = watched s := by
  unfold fetch at h
  split at h
  · cases h
  · cases h
    rfl

/-- Every step, from every state. -/
theorem step_upholds {s t : State} (h : step s = .next t) : Upholds s t := by
  unfold step at h
  split at h
  next heq => exact (Upholds.of_watched (fetch_watched heq)).trans (react_upholds h)
  next => cases h; exact .refl s

end Sys2Proof.Machine
end

section
/-! PROOFS. The obligations that `Upholds` answers, one for each of its parts. -/

namespace Sys2Proof.Machine

/-- Settles O12: each step keeps the bounds, by `step_upholds`; a constructed channel holds no digits. -/
theorem digitLengthsStayBounded : Obligations.DigitLengthsStayBounded :=
  ⟨fun _ => LengthsBounded.of_empty rfl rfl, fun _ _ hs h => (step_upholds h).lengths hs⟩

/-- Settles O13: each step keeps the pending code tied to its timer, by `step_upholds`. -/
theorem pendingCodeHasItsTimer : Obligations.PendingCodeHasItsTimer :=
  ⟨fun _ => ⟨rfl, by simp [State.constructed, isArmed], by simp [State.constructed, maskCode]⟩,
    fun _ _ hs h => (step_upholds h).pending hs⟩

/-- Settles O11. -/
theorem configurationIsNeverWritten : Obligations.ConfigurationIsNeverWritten :=
  ⟨fun _ _ _ h => (exec_upholds h).cfg, fun _ _ h => (step_upholds h).cfg⟩

end Sys2Proof.Machine
end

section
/-! PROOFS. The staging operations (spec/43_call_control.md R270, R271, R273): the words that carry their operation numbers,
and what each leaves. A staging rule raises no event, so it is one change of the buffers, or none, and then its STATUS. -/

namespace Sys2Proof.Machine

/-! ### The operation number of a word -/

/-- R91: the mask `0xF800` keeps the operation number, and it alone. -/
theorem unpackWord_op_eq (w : OpBits) : (unpackWord w).op = (w &&& 0xF800).extractLsb' 11 5 := by
  apply BitVec.eq_of_getLsbD_eq
  intro i hi
  interval_cases i <;> simp [unpackWord]

/-- R92: the masked word gives the number by which the word decodes. -/
theorem decode_of_masked {w m : OpBits} (h : w &&& 0xF800 = m) :
    decode w = decodeOp (unpackWord w).arg (unpackWord w).env (m.extractLsb' 11 5).toNat := by
  rw [← h, ← unpackWord_op_eq]
  rfl

/-! ### A rule that ends in its STATUS -/

/-- A rule that, from an empty trace, only reports `st` in the state `t`: there is no other action. -/
theorem runTop_status {env : Env} {op : Ctx → Act Unit} {st : Status} {s t : State}
    (h : op (topCtx env) (startTrace s) = status st (startTrace t)) : runTop env op s = .next (ended [] st t) := by
  unfold runTop
  rw [h]
  rfl

/-! ### The staging rules -/

theorem stageClr_apply (x : Ctx) (s : State) :
    stageClr x s = status .ok { s with stageAni := [], stageDnis := [] } := rfl

theorem stageAni_room {s : State} (h : s.stageAniLen ≠ Config.cap) (d : Digit) (x : Ctx) :
    stageAni d x s = status .ok { s with stageAni := s.stageAni ++ [d] } := by
  unfold stageAni
  rw [see_bind, if_neg h, upd_bind]

theorem stageAni_full {s : State} (h : s.stageAniLen = Config.cap) (d : Digit) (x : Ctx) :
    stageAni d x s = status .fail s := by
  unfold stageAni
  rw [see_bind, if_pos h]

theorem stageDnis_room {s : State} (h : s.stageDnisLen ≠ Config.cap) (d : Digit) (x : Ctx) :
    stageDnis d x s = status .ok { s with stageDnis := s.stageDnis ++ [d] } := by
  unfold stageDnis
  rw [see_bind, if_neg h, upd_bind]

theorem stageDnis_full {s : State} (h : s.stageDnisLen = Config.cap) (d : Digit) (x : Ctx) :
    stageDnis d x s = status .fail s := by
  unfold stageDnis
  rw [see_bind, if_pos h]

/-- Settles O48: the words by `decode_of_masked`; the effects are the staging rules run from the empty trace, which leaves
the buffers as they stand. -/
theorem stagingEffect : Obligations.StagingEffect := by
  refine ⟨fun w => ⟨decode_of_masked, decode_of_masked, decode_of_masked⟩, fun d env s => ⟨?clr, ?aniRoom, ?aniFull,
    ?dnisRoom, ?dnisFull⟩⟩
  case clr => exact runTop_status (op := stageClr) (stageClr_apply (topCtx env) (startTrace s))
  case aniRoom => exact fun h => runTop_status (stageAni_room (s := startTrace s) h d _)
  case aniFull => exact fun h => runTop_status (stageAni_full (s := startTrace s) h d _)
  case dnisRoom => exact fun h => runTop_status (stageDnis_room (s := startTrace s) h d _)
  case dnisFull => exact fun h => runTop_status (stageDnis_full (s := startTrace s) h d _)

end Sys2Proof.Machine
end

section
/-! PROOFS. The operation word (spec/30_encoding.md sections 1 and 2): what is encoded is read back, which words are
illegal, and what each operation number stands for; and the word of an output action (sections 4 and 5). -/

namespace Sys2Proof.Machine

/-! ### Operands -/

/-- R111: a category is found by its index, and by no other number. -/
theorem categoryOfNumber_eq_none {n : Nat} : categoryOfNumber n = none ↔ 6 ≤ n := by
  rcases n with _ | _ | _ | _ | _ | _ | n <;> simp [categoryOfNumber]

theorem categoryOfNumber_number (c : Category) : categoryOfNumber c.number = some c := by cases c <;> rfl

/-- R108: a cause is found by its number, and by no other. -/
theorem causeOfNumber_eq_none {n : Nat} : causeOfNumber n = none ↔ 10 ≤ n := by
  rcases n with _ | _ | _ | _ | _ | _ | _ | _ | _ | _ | n <;> simp [causeOfNumber]

theorem causeOfNumber_number (c : Cause) : causeOfNumber c.number = some c := by cases c <;> rfl

/-- R93: `arg[3:1]` as a number. -/
theorem arg_high_toNat (a : BitVec 4) : (a.extractLsb' 1 3).toNat = a.toNat / 2 := by
  revert a
  decide

theorem modeOfArg_number (a : BitVec 4) : (modeOfArg a).number = a.toNat % 4 := by
  revert a
  decide

theorem Mode.number_inj {m n : Mode} (h : m.number = n.number) : m = n := by
  revert h
  cases m <;> cases n <;> decide

/-! ### Illegal operands -/

theorem decodeToneOn_illegal {t : Tone} {env : Env} : (∃ why, decodeToneOn t env = .illegal why) ↔ t = 0 := by
  unfold decodeToneOn
  by_cases h : t = 0
  · simp [h, toneWellFormed]
  · have ht : toneWellFormed t = true := by simpa [toneWellFormed] using h
    simp only [ht, if_true, h, iff_false]
    rintro ⟨_, e⟩
    cases e

theorem decodeTimerExp_illegal {env : Env} {n : Nat} : (∃ why, decodeTimerExp env n = .illegal why) ↔ 12 ≤ n := by
  rcases n with _ | _ | _ | _ | _ | _ | _ | _ | _ | _ | _ | _ | n <;> simp [decodeTimerExp]

/-- R244: the timer numbers, as the operations they stand for. -/
theorem decodeTimerExp_index (t : Timer) (env : Env) :
    ∃ i, decodeTimerExp env t.index = .instr i ∧ expiredTimer i = some t ∧ envOf i = env := by
  cases t <;> exact ⟨_, rfl, rfl, rfl⟩

theorem decodeMakeCall_illegal {a : BitVec 4} {env : Env} :
    (∃ why, decodeMakeCall a env = .illegal why) ↔ 6 ≤ a.toNat / 2 := by
  rw [← arg_high_toNat, ← categoryOfNumber_eq_none]
  unfold decodeMakeCall
  cases categoryOfNumber (a.extractLsb' 1 3).toNat <;> simp

theorem decodeMakeCall_number {a : BitVec 4} {c : Category} (h : a.toNat / 2 = c.number) (env : Env) :
    decodeMakeCall a env = .instr (.makeCall c (a.getLsbD 0) env) := by
  unfold decodeMakeCall
  rw [arg_high_toNat, h, categoryOfNumber_number]

theorem decodeDisconnectCall_illegal {a : BitVec 4} {env : Env} :
    (∃ why, decodeDisconnectCall a env = .illegal why) ↔ 10 ≤ a.toNat := by
  rw [← causeOfNumber_eq_none]
  unfold decodeDisconnectCall
  cases causeOfNumber a.toNat <;> simp

theorem decodeDisconnectCall_number {a : BitVec 4} {c : Cause} (h : a.toNat = c.number) (env : Env) :
    decodeDisconnectCall a env = .instr (.disconnectCall c env) := by
  unfold decodeDisconnectCall
  rw [h, causeOfNumber_number]

/-! ### Words -/

/-- The operation numbers of R92. -/
def listedNumbers : List Nat :=
  [0x01, 0x02, 0x03, 0x04, 0x05, 0x08, 0x09, 0x0A, 0x0B, 0x0C, 0x0D, 0x0E, 0x0F, 0x10, 0x11, 0x12, 0x13]

/-- R95: an operation number is unlisted, or its operand is out of range. -/
theorem decodeOp_illegal {a : BitVec 4} {env : Env} {n : Nat} :
    (∃ why, decodeOp a env n = .illegal why) ↔
      n ∉ listedNumbers ∨ (n = 2 ∧ a = 0) ∨ (n = 5 ∧ 12 ≤ a.toNat) ∨ (n = 12 ∧ 10 ≤ a.toNat) ∨
        (n = 8 ∧ 6 ≤ a.toNat / 2) := by
  unfold decodeOp
  split
  case h_2 => rw [decodeToneOn_illegal]; simp [listedNumbers]
  case h_5 => rw [decodeTimerExp_illegal]; simp [listedNumbers]
  case h_6 => rw [decodeMakeCall_illegal]; simp [listedNumbers]
  case h_10 => rw [decodeDisconnectCall_illegal]; simp [listedNumbers]
  case h_18 => simp_all [listedNumbers]
  all_goals simp [listedNumbers]

/-- The operation number decides how a word decodes (R92). -/
theorem decode_of_op {w : OpBits} {n : BitVec 5} (h : (unpackWord w).op = n) :
    decode w = decodeOp (unpackWord w).arg (unpackWord w).env n.toNat := by
  rw [← h]
  rfl

/-- Settles O1: the fields of a packed word are read back, and the fields of each operation decode to it. -/
theorem decodeEncodeRoundTrip : Obligations.DecodeEncodeRoundTrip := by
  intro i hwf
  have hfields : decodeFields (encodeFields i) = .instr i := by
    cases i with
    | line env => exact Laws.FieldsRoundTrip.line env hwf
    | toneOn tone env => exact Laws.FieldsRoundTrip.toneOn tone env hwf
    | toneOff env => exact Laws.FieldsRoundTrip.toneOff env hwf
    | dtmfDigit digit env => exact Laws.FieldsRoundTrip.dtmfDigit digit env hwf
    | timerExpSeize env => exact Laws.FieldsRoundTrip.timerExpSeize env hwf
    | timerExpSeizePersist env => exact Laws.FieldsRoundTrip.timerExpSeizePersist env hwf
    | timerExpAnswer env => exact Laws.FieldsRoundTrip.timerExpAnswer env hwf
    | timerExpAnswerDelay env => exact Laws.FieldsRoundTrip.timerExpAnswerDelay env hwf
    | timerExpDoubleAnswer env => exact Laws.FieldsRoundTrip.timerExpDoubleAnswer env hwf
    | timerExpSetCallDown env => exact Laws.FieldsRoundTrip.timerExpSetCallDown env hwf
    | timerExpMeteringPulse env => exact Laws.FieldsRoundTrip.timerExpMeteringPulse env hwf
    | timerExpMfBackCycle env => exact Laws.FieldsRoundTrip.timerExpMfBackCycle env hwf
    | timerExpMfBackResumeCycle env => exact Laws.FieldsRoundTrip.timerExpMfBackResumeCycle env hwf
    | timerExpMfFwdSafety env => exact Laws.FieldsRoundTrip.timerExpMfFwdSafety env hwf
    | timerExpDtmfStartDial env => exact Laws.FieldsRoundTrip.timerExpDtmfStartDial env hwf
    | timerExpCasPersistenceCheck env => exact Laws.FieldsRoundTrip.timerExpCasPersistenceCheck env hwf
    | makeCall category restricted env => exact Laws.FieldsRoundTrip.makeCall category restricted env hwf
    | acceptCall mode env => exact Laws.FieldsRoundTrip.acceptCall mode env hwf
    | answerCall env => exact Laws.FieldsRoundTrip.answerCall env hwf
    | answerCallMode double env => exact Laws.FieldsRoundTrip.answerCallMode double env hwf
    | disconnectCall cause env => exact Laws.FieldsRoundTrip.disconnectCall cause env hwf
    | ackCall env => exact Laws.FieldsRoundTrip.ackCall env hwf
    | setIdle env => exact Laws.FieldsRoundTrip.setIdle env hwf
    | setBlocked env => exact Laws.FieldsRoundTrip.setBlocked env hwf
    | alarm raised env => exact Laws.FieldsRoundTrip.alarm raised env hwf
    | stageClr env => exact Laws.FieldsRoundTrip.stageClr env hwf
    | stageAni digit env => exact Laws.FieldsRoundTrip.stageAni digit env hwf
    | stageDnis digit env => exact Laws.FieldsRoundTrip.stageDnis digit env hwf
  rw [decode, encode, unpackWord_packWord, hfields]

/-- Settles O2, by `decodeOp_illegal` at the word's fields. -/
theorem illegalWordsAreTheListedOnes : Obligations.IllegalWordsAreTheListedOnes := by
  intro w
  have hnum : ∀ k : BitVec 5, (unpackWord w).op = k ↔ (unpackWord w).op.toNat = k.toNat :=
    fun k => ⟨fun h => by rw [h], BitVec.eq_of_toNat_eq⟩
  rw [hnum 0x02, hnum 0x05, hnum 0x0C, hnum 0x08]
  exact decodeOp_illegal

/-- Settles O3: each operation number has its row in `decodeOp`, and the operands are read as R93 says. -/
theorem wordsDecodeByOperationNumber : Obligations.WordsDecodeByOperationNumber := by
  intro w
  refine ⟨decode_of_op, fun h h0 => ?tone, decode_of_op, decode_of_op, fun t h ht => ?timer, fun c h hc => ?makeCall,
    fun m h hm => ?accept, decode_of_op, decode_of_op, fun c h hc => ?disconnect, decode_of_op, decode_of_op,
    decode_of_op, decode_of_op, decode_of_op, decode_of_op, decode_of_op⟩
  case tone =>
    have ht : toneWellFormed (unpackWord w).arg = true := by simpa [toneWellFormed] using h0
    exact (decode_of_op h).trans (if_pos ht)
  case timer =>
    obtain ⟨i, hi, htimer, henv⟩ := decodeTimerExp_index t (unpackWord w).env
    exact ⟨i, by rw [decode_of_op h, ← hi, ← ht]; rfl, htimer, henv⟩
  case makeCall => exact (decode_of_op h).trans (decodeMakeCall_number hc _)
  case accept =>
    have hmode : modeOfArg (unpackWord w).arg = m := Mode.number_inj (by rw [modeOfArg_number, hm])
    exact (decode_of_op h).trans (by rw [← hmode]; rfl)
  case disconnect => exact (decode_of_op h).trans (decodeDisconnectCall_number hc _)

/-- Settles O4. -/
theorem knownWordsDecode : Obligations.KnownWordsDecode := by
  unfold Obligations.KnownWordsDecode
  decide

/-! ### Output words -/

theorem timerNumber_inj {t u : Timer} (h : timerNumber t = timerNumber u) : t = u := by
  revert h
  cases t <;> cases u <;> decide

theorem Status.number_inj {s t : Status} (h : s.number = t.number) : s = t := by
  revert h
  cases s <;> cases t <;> decide

theorem ErrorKind.number_inj {k l : ErrorKind} (h : k.number = l.number) : k = l := by
  revert h
  cases k <;> cases l <;> decide

theorem OsError.number_inj {o p : OsError} (h : o.number = p.number) : o = p := by
  revert h
  cases o <;> cases p <;> decide

theorem signalNumber_inj {s t : Option Signal} (h : signalNumber s = signalNumber t) : s = t := by
  revert h
  rcases s with _ | s <;> rcases t with _ | t <;> [skip; cases t; cases s; (cases s <;> cases t)] <;> decide

theorem modeNumber_inj {m n : Mode} (h : BitVec.ofNat 8 m.number = BitVec.ofNat 8 n.number) : m = n := by
  revert h
  cases m <;> cases n <;> decide

theorem causeNumber_inj {c d : Cause} (h : BitVec.ofNat 8 c.number = BitVec.ofNat 8 d.number) : c = d := by
  revert h
  cases c <;> cases d <;> decide

/-- Wider words hold what they were made from. -/
theorem zeroExtend_inj {v w : Nat} (hvw : v ≤ w) {a b : BitVec v} (h : a.zeroExtend w = b.zeroExtend w) : a = b := by
  apply BitVec.eq_of_toNat_eq
  have ha : a.toNat < 2 ^ w := a.isLt.trans_le (Nat.pow_le_pow_right (by decide) hvw)
  have hb : b.toNat < 2 ^ w := b.isLt.trans_le (Nat.pow_le_pow_right (by decide) hvw)
  simpa [Nat.mod_eq_of_lt ha, Nat.mod_eq_of_lt hb] using congrArg BitVec.toNat h

/-- Two fields side by side are read back. -/
theorem append_inj {v w : Nat} {a a' : BitVec v} {b b' : BitVec w} (h : a ++ b = a' ++ b') : a = a' ∧ b = b' := by
  constructor
  · rw [← BitVec.extractLsb'_append_eq_left (a := a) (b := b), h, BitVec.extractLsb'_append_eq_left]
  · rw [← BitVec.extractLsb'_append_eq_right (a := a) (b := b), h, BitVec.extractLsb'_append_eq_right]

theorem ofBool_inj {a b : Bool} (h : BitVec.ofBool a = BitVec.ofBool b) : a = b := by
  revert h
  cases a <;> cases b <;> decide

/-- R107: the number and the payload of an event determine it. -/
theorem Event.eq_of_fields {e f : Event} (hn : e.number = f.number) (hp : e.payload = f.payload) : e = f := by
  cases e with
  | callInit => cases f with
    | callInit => exact rfl
    | _ => simp [Event.number] at hn
  | callOffered _ => cases f with
    | callOffered _ => exact congrArg _ (zeroExtend_inj (by decide) hp)
    | _ => simp [Event.number] at hn
  | callAccepted _ => cases f with
    | callAccepted _ => exact congrArg _ (modeNumber_inj hp)
    | _ => simp [Event.number] at hn
  | callAnswered => cases f with
    | callAnswered => exact rfl
    | _ => simp [Event.number] at hn
  | callProceed => cases f with
    | callProceed => exact rfl
    | _ => simp [Event.number] at hn
  | callDisconnect _ => cases f with
    | callDisconnect _ => exact congrArg _ (causeNumber_inj hp)
    | _ => simp [Event.number] at hn
  | callEnd => cases f with
    | callEnd => exact rfl
    | _ => simp [Event.number] at hn
  | lineIdle => cases f with
    | lineIdle => exact rfl
    | _ => simp [Event.number] at hn
  | lineBlocked => cases f with
    | lineBlocked => exact rfl
    | _ => simp [Event.number] at hn
  | billingPulseReceived => cases f with
    | billingPulseReceived => exact rfl
    | _ => simp [Event.number] at hn
  | callLogCreated => cases f with
    | callLogCreated => exact rfl
    | _ => simp [Event.number] at hn
  | protocolError _ => cases f with
    | protocolError _ => exact congrArg _ (ErrorKind.number_inj (zeroExtend_inj (by decide) hp))
    | _ => simp [Event.number] at hn
  | osError _ => cases f with
    | osError _ => exact congrArg _ (OsError.number_inj (zeroExtend_inj (by decide) hp))
    | _ => simp [Event.number] at hn
  | dnisDigitReceived _ => cases f with
    | dnisDigitReceived _ => exact congrArg _ (zeroExtend_inj (by decide) hp)
    | _ => simp [Event.number] at hn
  | aniDigitReceived _ => cases f with
    | aniDigitReceived _ => exact congrArg _ (zeroExtend_inj (by decide) hp)
    | _ => simp [Event.number] at hn

/-- R100: the kind and the payload of an action determine it, but for the durations. -/
theorem wordPart_eq_of_fields {a b : Action} (hk : a.kind = b.kind) (hp : a.payload = b.payload) :
    wordPart a = wordPart b := by
  cases a with
  | status _ => cases b with
    | status _ => exact congrArg (wordPart ∘ .status) (Status.number_inj (zeroExtend_inj (by decide) hp))
    | _ => simp [Action.kind] at hk
  | evt _ => cases b with
    | evt _ => exact congrArg (wordPart ∘ .evt) (Event.eq_of_fields (append_inj hp).1 (append_inj hp).2)
    | _ => simp [Action.kind] at hk
  | setLine _ => cases b with
    | setLine _ => exact congrArg (wordPart ∘ .setLine) (zeroExtend_inj (by decide) hp)
    | _ => simp [Action.kind] at hk
  | flush => cases b with
    | flush => exact rfl
    | _ => simp [Action.kind] at hk
  | tone _ => cases b with
    | tone _ => exact congrArg (wordPart ∘ .tone) (zeroExtend_inj (by decide) hp)
    | _ => simp [Action.kind] at hk
  | tmrArm _ _ => cases b with
    | tmrArm _ _ => exact congrArg (Action.tmrArm · 0) (timerNumber_inj (zeroExtend_inj (by decide) hp))
    | _ => simp [Action.kind] at hk
  | tmrCancel _ => cases b with
    | tmrCancel _ => exact congrArg (wordPart ∘ .tmrCancel) (timerNumber_inj (zeroExtend_inj (by decide) hp))
    | _ => simp [Action.kind] at hk
  | mfInit _ => cases b with
    | mfInit _ => exact congrArg (wordPart ∘ .mfInit) (ofBool_inj (zeroExtend_inj (by decide) hp))
    | _ => simp [Action.kind] at hk
  | mfDispose _ => cases b with
    | mfDispose _ => exact congrArg (wordPart ∘ .mfDispose) (ofBool_inj (zeroExtend_inj (by decide) hp))
    | _ => simp [Action.kind] at hk
  | dtmfRxInit => cases b with
    | dtmfRxInit => exact rfl
    | _ => simp [Action.kind] at hk
  | dtmfTxInit => cases b with
    | dtmfTxInit => exact rfl
    | _ => simp [Action.kind] at hk
  | dtmfTiming _ _ => cases b with
    | dtmfTiming _ _ => exact rfl
    | _ => simp [Action.kind] at hk
  | dtmfPut _ => cases b with
    | dtmfPut _ => exact congrArg (wordPart ∘ .dtmfPut) (zeroExtend_inj (by decide) hp)
    | _ => simp [Action.kind] at hk
  | logTx _ _ => cases b with
    | logTx _ _ =>
      obtain ⟨hsig, hraw⟩ := append_inj (zeroExtend_inj (by decide) hp)
      have hs := Option.some_inj.mp (signalNumber_inj hsig)
      simp [wordPart, hs, hraw]
    | _ => simp [Action.kind] at hk
  | logRx _ _ => cases b with
    | logRx _ _ =>
      obtain ⟨hsig, hraw⟩ := append_inj (zeroExtend_inj (by decide) hp)
      simp [wordPart, signalNumber_inj hsig, hraw]
    | _ => simp [Action.kind] at hk
  | logSnap _ => cases b with
    | logSnap _ => exact congrArg (wordPart ∘ .logSnap) (ErrorKind.number_inj (zeroExtend_inj (by decide) hp))
    | _ => simp [Action.kind] at hk

/-- Settles O5: a word is its kind beside its payload. -/
theorem outputWordsDetermineActions : Obligations.OutputWordsDetermineActions := by
  intro a b h
  obtain ⟨hk, hp⟩ := append_inj h
  exact wordPart_eq_of_fields hk hp

end Sys2Proof.Machine
end

section
/-! PROOFS. The statements of tier 1 about decoding a received code, about the step and about construction. -/

namespace Sys2Proof.Machine

/-- R135: `Classify` as a list of tests. -/
theorem classifiedSignal_eq (c : Cfg) (r : LineCode) : classifiedSignal c r = firstMatch (classifyTests c r) := by
  unfold classifiedSignal classify classifyTests
  split_ifs <;> simp_all [firstMatch]

theorem decodeWhileIdle_eq (c : Cfg) (r : LineCode) : decodeWhileIdle c r =
    firstMatch [(r == code c .idle, .idle), (r == code c .block, .block), (r == code c .seize, .seize)] := by
  simp [decodeWhileIdle, firstMatch]

theorem decodeWhileBlocked_eq (c : Cfg) (r : LineCode) : decodeWhileBlocked c r =
    firstMatch [(r == code c .idle, .idle), (r == code c .block, .block)] := by
  simp [decodeWhileBlocked, firstMatch]

theorem decodeClearForward_eq (c : Cfg) (r : LineCode) : decodeClearForward c r =
    firstMatch [(r == code c .clearForward, .clearForward)] := by
  simp [decodeClearForward, firstMatch]

theorem decodeWhileSeizing_eq (c : Cfg) (r : LineCode) : decodeWhileSeizing c r =
    firstMatch [(r == code c .seizeAck, .seizeAck), (c.frIsSeizeAck && r == code c .forcedRelease, .seizeAck),
      (r == code c .seize, .seize)] := by
  simp [decodeWhileSeizing, firstMatch]

theorem decodeAnswerOrClear_eq (c : Cfg) (r : LineCode) : decodeAnswerOrClear c r =
    firstMatch ((r == code c .answer, .answer) :: classifyTests c r) := by
  simp [decodeAnswerOrClear, firstMatch, classifiedSignal_eq]

theorem decodeWhileClearing_eq (c : Cfg) (r : LineCode) : decodeWhileClearing c r =
    firstMatch ((r == code c .idle, .idle) :: classifyTests c r) := by
  simp [decodeWhileClearing, firstMatch, classifiedSignal_eq]

/-- Settles O6: each row of `decodeSignal` is one of the decoders above, and each of those is its list of tests. -/
theorem receivedCodesDecodeByState : Obligations.ReceivedCodesDecodeByState := by
  intro c r
  refine ⟨?idle, decodeWhileBlocked_eq c r, ?clearForward, ?nothing, decodeWhileSeizing_eq c r, ?answer, ?classified,
    decodeWhileClearing_eq c r⟩
  case idle => simp [decodeSignal, decodeWhileIdle_eq]
  case clearForward => simp [decodeSignal, decodeClearForward_eq]
  case nothing => simp [decodeSignal]
  case answer => simp [decodeSignal, decodeAnswerOrClear_eq]
  case classified => simp [decodeSignal, classifiedSignal_eq]

/-- Settles O7: `fetch` takes the first word of the stream, and `react` runs what it decodes to. -/
theorem stepRunsTheDecodedOperation : Obligations.StepRunsTheDecodedOperation := by
  refine ⟨fun s d rest hin => ?_, fun s hin => by simp [step, fetch, hin]⟩
  have hstep : step s = react d.word { s with input := rest, resp := d.responses } := by simp [step, fetch, hin]
  exact ⟨fun i hi => by rw [hstep, react, hi], fun why hw => by rw [hstep, react, hw]; rfl⟩

/-- Settles O9: `State.constructed` is the reset table. -/
theorem resetValues : Obligations.ResetValues := by
  intro cfg
  simp [State.constructed, State.aniLen, State.dnisLen, State.stageAniLen, State.stageDnisLen]

theorem isArmed_constructed (t : Timer) (cfg : Cfg) : isArmed t (State.constructed cfg) = false := by
  simp [isArmed, State.constructed]

/-- Settles O10: a constructed channel has no call, no timer, no engine and no digit. -/
theorem invariantsHoldAtReset : Obligations.InvariantsHoldAtReset := by
  intro cfg
  have hstray : noStrayTimer (State.constructed cfg) = true := by simp [noStrayTimer, State.constructed]
  exact ⟨rfl, by rw [pendingMatches, isArmed_constructed]; rfl, rfl, hstray, rfl, rfl, rfl,
    by rw [answerDelayFits, isArmed_constructed]; rfl⟩

end Sys2Proof.Machine
end

section
/-! PROOFS. What a rule reports and how it ends the operation. `Leads P E m`: from `P`, the rule `m` goes on in `P` or ends the
whole operation in `E`. Every rule that does not write the alarm flag or the staging buffers leads so in every `Regime`, that
is wherever the events, the I/O failure and the error path do. The instances of `Regime` give the obligations. -/

namespace Sys2Proof.Machine

/-! ### Rules that go on or end -/

/-- From `P`, `m` goes on in `P` or ends the whole operation in `E`. -/
def Leads {α : Type} (P E : State → Prop) (m : Act α) : Prop := ∀ s, P s → match m s with
  | .ok _ s' => P s'
  | .error _ s' => E s'

/-- `m`, run from `P` as the last piece before STATUS `st` and the end of the operation, ends in `E`. -/
def Closes (st : Status) (P E : State → Prop) (m : Act Unit) : Prop := ∀ s, P s → match m s with
  | .ok _ s' => E (output (.status st) s')
  | .error _ s' => E s'

theorem Closes.finish {α : Type} {st : Status} {P E : State → Prop} {m : Act Unit} (h : Closes st P E m) :
    Leads P E (do m; status st; (Machine.finish : Act α)) := by
  intro s hs
  have hm := h s hs
  rw [bind_apply]
  cases heq : m s with
  | ok a s' => simpa [heq] using hm
  | error e s' => simpa [heq] using hm

theorem Leads.closes {st : Status} {P E : State → Prop} {m : Act Unit} (h : Leads P E m)
    (hend : ∀ s, P s → E (output (.status st) s)) : Closes st P E m := by
  intro s hs
  have hm := h s hs
  cases heq : m s with
  | ok a s' => exact hend s' (by simpa [heq] using hm)
  | error e s' => simpa [heq] using hm

namespace Leads
variable {α β : Type} {P E : State → Prop}

theorem pure (a : α) : Leads P E (Pure.pure a : Act α) := fun _ h => h

theorem upd {f : State → State} (h : ∀ s, P s → P (f s)) : Leads P E (Machine.upd f) := h

theorem bind {m : Act α} {f : α → Act β} (hm : Leads P E m) (hf : ∀ a, Leads P E (f a)) : Leads P E (m >>= f) := by
  intro s hs
  have h := hm s hs
  rw [bind_apply]
  cases heq : m s with
  | ok a s' => exact hf a s' (by simpa [heq] using h)
  | error e s' => simpa [heq] using h

theorem seq {m : Act Unit} {n : Act α} (hm : Leads P E m) (hn : Leads P E n) : Leads P E (m >>= fun _ => n) :=
  bind hm fun _ => hn

theorem look {f : State → Act α} (hf : ∀ s, Leads P E (f s)) : Leads P E (Machine.see >>= f) := fun s hs => hf s s hs

theorem ite {c : Prop} [Decidable c] {m n : Act α} (hm : c → Leads P E m) (hn : ¬ c → Leads P E n) :
    Leads P E (if c then m else n) := by
  split
  · exact hm ‹_›
  · exact hn ‹_›

theorem onlyIf {c : Bool} {m : Act Unit} (hm : Leads P E m) : Leads P E (Machine.onlyIf c m) := by
  cases c
  · exact pure ()
  · exact hm

end Leads

/-! ### What the rules leave as it is -/

/-- The registers that only ALARM, MAKE_CALL and the STAGE operations write, the responses not yet read, and the events so
far. -/
def reported (s : State) : Bool × List Digit × List Digit × List RespBits × List Event :=
  (s.alarm, s.stageAni, s.stageDnis, s.resp, eventsOf s.out)

@[simp] theorem eventsOf_append (as bs : List Action) : eventsOf (as ++ bs) = eventsOf as ++ eventsOf bs := by
  simp [eventsOf]

@[simp] theorem eventsOf_cancelsOf (ts : List Timer) (s : State) : eventsOf (cancelsOf ts s) = [] := by
  simp [eventsOf, cancelsOf, List.filterMap_map]

@[simp] theorem eventsOf_releaseActions (s : State) : eventsOf (releaseActions s) = [] := by
  unfold releaseActions
  split_ifs <;> rfl

@[simp] theorem eventsOf_toneActions (t : Tone) (s : State) : eventsOf (toneActions t s) = [] := by
  unfold toneActions
  split_ifs <;> rfl

@[simp] theorem eventsOf_armActions (t : Timer) (s : State) : eventsOf (armActions t s) = [] := by
  rw [armActions, eventsOf_append, eventsOf_cancelsOf]
  rfl

@[simp] theorem eventsOf_lineActions (c : Cfg) (sig : Signal) : eventsOf (lineActions c sig) = [] := rfl

@[simp] theorem eventsOf_baselineActions (s : State) : eventsOf (baselineActions s) = [] := by simp [baselineActions]

theorem reported_disarm (t : Timer) (s : State) : reported (disarm t s) = reported s := rfl

theorem reported_cancel (t : Timer) (s : State) : reported (cancel t s) = reported s := by
  simp [reported, cancel_eq]

theorem reported_arm (t : Timer) (s : State) : reported (arm t s) = reported s := by
  simp [reported, arm_eq]

theorem reported_cancelEach (ts : List Timer) (s : State) : reported (cancelEach ts s) = reported s := by
  induction ts generalizing s with
  | nil => rfl
  | cons t ts ih => rw [cancelEach, ih, reported_cancel]

theorem reported_cancelCallTimers (s : State) : reported (cancelCallTimers s) = reported s := reported_cancelEach _ s

theorem reported_cancelAll (s : State) : reported (cancelAll s) = reported s := by simp [reported, cancelAll_eq]

theorem reported_mfRelease (s : State) : reported (mfRelease s) = reported s := by simp [reported, mfRelease_eq]

theorem reported_resetBaseline (s : State) : reported (resetBaseline s) = reported s := by
  simp [reported, resetBaseline_eq, baselineOf]

theorem reported_output {a : Action} (h : eventsOf [a] = []) (s : State) : reported (output a s) = reported s := by
  simp [reported, h]

theorem reported_outputs {as : List Action} (h : eventsOf as = []) {s t : State} (hout : t.out = s.out ++ as)
    (halarm : t.alarm = s.alarm) (hani : t.stageAni = s.stageAni) (hdnis : t.stageDnis = s.stageDnis)
    (hresp : t.resp = s.resp) : reported t = reported s := by
  simp [reported, h, hout, halarm, hani, hdnis, hresp]

theorem reported_writeLine (sig : Signal) (s : State) : reported (writeLine sig s) = reported s :=
  reported_outputs (as := lineActions s.cfg sig) rfl rfl rfl rfl rfl rfl

theorem reported_putTone (t : Tone) (s : State) : reported (putTone t s) = reported s :=
  reported_outputs (as := [.tone t]) rfl rfl rfl rfl rfl rfl

theorem reported_acquireMf (s : State) : reported (acquireMf s) = reported s :=
  reported_outputs (as := [.mfInit false, .mfInit true]) rfl rfl rfl rfl rfl rfl

theorem reported_acquireDtmfRx (s : State) : reported (acquireDtmfRx s) = reported s :=
  reported_outputs (as := [.dtmfRxInit]) rfl rfl rfl rfl rfl rfl

theorem reported_acquireDtmfTx (s : State) : reported (acquireDtmfTx s) = reported s :=
  reported_outputs (by simp [eventsOf]) rfl rfl rfl rfl rfl

theorem reported_closeDnisAfter (stop : Bool) (s : State) : reported (closeDnisAfter stop s) = reported s := by
  unfold closeDnisAfter
  split <;> rfl

theorem reported_closeAniByCount (s : State) : reported (closeAniByCount s) = reported s := by
  unfold closeAniByCount
  split <;> rfl

theorem reported_answerSent (double : Bool) (s : State) : reported (answerSent double s) = reported s := by
  cases double
  · rfl
  · exact reported_arm _ _

theorem reported_dueDnis (i : Nat) (s : State) : reported (dueDnis i s) = reported s := by
  unfold dueDnis
  split_ifs
  · rfl
  · rfl
  · exact reported_arm _ _

theorem reported_dueAni (s : State) : reported (dueAni s) = reported s := by
  unfold dueAni
  split_ifs
  · rfl
  · rfl
  · rfl
  · exact reported_arm _ _

theorem reported_lineReverted (s : State) : reported (lineReverted s) = reported s := by
  unfold lineReverted
  split
  · exact reported_cancel _ _
  · rfl

theorem reported_recordSample (raw : LineCode) (s : State) : reported (recordSample raw s) = reported s :=
  (reported_output rfl _).trans (reported_cancel _ _)

/-! ### The rules -/

/-- Where the events, the I/O failures and the error path lead from `P` to `P` or end in `E`, and nothing else is asked of
`P` than what `reported` shows. -/
structure Regime (x : Ctx) (P E : State → Prop) : Prop where
  frame : ∀ s t, reported t = reported s → P s → P t
  event : ∀ ev, (∀ kind, ev ≠ .protocolError kind) → Leads P E (emit x ev)
  ioEnd : ∀ s, P s → E (output (.status .ioError) s)
  errorEnd : ∀ kind, Closes .ok P E (notify x (.protocolError kind))

section Rules
variable {α : Type} {P E : State → Prop} {x : Ctx} (hR : Regime x P E)
include hR

theorem upd_leads {f : State → State} (h : ∀ s, reported (f s) = reported s) : Leads P E (upd f) :=
  .upd fun s hs => hR.frame s _ (h s) hs

theorem cancel_leads {t : Timer} : Leads P E (upd (cancel t)) := upd_leads hR (reported_cancel t)

theorem arm_leads {t : Timer} : Leads P E (upd (arm t)) := upd_leads hR (reported_arm t)

theorem mfRelease_leads : Leads P E (upd mfRelease) := upd_leads hR reported_mfRelease

theorem status_leads (st : Status) : Leads P E (status st) := upd_leads hR fun _ => reported_output rfl _

theorem readDigit_leads (buffer : List Digit) (i : Nat) : Leads P E (readDigit buffer i) := by
  intro s hs
  rcases Nat.lt_or_ge i buffer.length with h | h
  · rw [readDigit_lt h]
    exact hs
  · rw [readDigit_ge h]
    exact hR.frame s _ rfl hs

/-! ### Events, I/O and the error path -/

theorem emit_leads (ev : Event) (h : ∀ kind, ev ≠ .protocolError kind := by nofun) : Leads P E (emit x ev) :=
  hR.event ev h

theorem notify_leads (ev : Event) (h : ∀ kind, ev ≠ .protocolError kind := by nofun) : Leads P E (notify x ev) :=
  .bind (emit_leads hR ev h) fun _ => .pure _

theorem emitGuarded_leads (ev : Event) (h : ∀ kind, ev ≠ .protocolError kind := by nofun) :
    Leads P E (emitGuarded x ev) :=
  .look fun _ => .bind (emit_leads hR ev h) fun _ => .look fun _ => .pure _

theorem ioError_leads (what : OsError) : Leads P E (ioError x what : Act α) :=
  ((notify_leads hR (.osError what)).closes hR.ioEnd).finish

theorem getLine_leads : Leads P E (getLine x) := .ite (fun _ => ioError_leads hR _) fun _ => .pure _

theorem txSignal_leads (sig : Signal) : Leads P E (txSignal x sig) :=
  .ite (fun _ => ioError_leads hR _) fun _ => upd_leads hR (reported_writeLine sig)

theorem setTone_leads (t : Tone) : Leads P E (setTone x t) :=
  .look fun _ => .ite (fun _ => .pure _) fun _ => .ite (fun _ => upd_leads hR (reported_putTone 0)) fun _ =>
    .ite (fun _ => ioError_leads hR _) fun _ =>
      upd_leads hR fun _ => (reported_putTone t _).trans (reported_output rfl _)

theorem errorIdle_leads : Leads P E (errorIdle x) :=
  .ite (fun _ => notify_leads hR _) fun _ => upd_leads hR (reported_writeLine .idle)

theorem protocolError_leads (kind : ErrorKind) : Leads P E (protocolError x kind : Act α) := by
  have htail := (hR.errorEnd kind).finish (α := α)
  unfold protocolError errorPath
  simp only [bind_assoc]
  exact .seq (upd_leads hR (reported_output rfl)) (.seq (errorIdle_leads hR)
    (.seq (upd_leads hR reported_resetBaseline) htail))

theorem mfInit_leads : Leads P E (mfInit x) :=
  .ite (fun _ => protocolError_leads hR _) fun _ => upd_leads hR reported_acquireMf

theorem dtmfRxInit_leads : Leads P E (dtmfRxInit x) :=
  .ite (fun _ => protocolError_leads hR _) fun _ => upd_leads hR reported_acquireDtmfRx

theorem dtmfTxStart_leads : Leads P E (dtmfTxStart x) :=
  .ite (fun _ => protocolError_leads hR _) fun _ => upd_leads hR reported_acquireDtmfTx

/-! ### The lifecycle procedures -/

theorem handleDisconnect_leads (sig : Signal) (cause : Cause) : Leads P E (handleDisconnect x sig cause) :=
  .seq (upd_leads hR (reported_cancelEach _))
    (.seq (mfRelease_leads hR) (.seq (upd_leads hR fun _ => rfl) (notify_leads hR _)))

theorem endCall_leads : Leads P E (endCall x) :=
  .seq (txSignal_leads hR _) (.seq (upd_leads hR reported_resetBaseline) (notify_leads hR _))

theorem clearForwardReceived_leads : Leads P E (clearForwardReceived x) :=
  .seq (upd_leads hR reported_cancelAll) (.seq (mfRelease_leads hR) (.seq (upd_leads hR fun _ => rfl) (notify_leads hR _)))

theorem answerReceived_leads : Leads P E (answerReceived x) :=
  .seq (upd_leads hR fun _ => rfl) (notify_leads hR _)

theorem acceptThenAnswer_leads (mode : Mode) : Leads P E (acceptThenAnswer x mode) :=
  .seq (cancel_leads hR) (.seq (upd_leads hR fun _ => rfl)
    (.bind (emitGuarded_leads hR _) fun _ => .onlyIf (answerReceived_leads hR)))

theorem convergeGlare_leads : Leads P E (convergeGlare x) :=
  .look fun _ => .ite (fun _ => upd_leads hR fun _ => reported_arm _ _) fun _ => endCall_leads hR

theorem localClearForward_leads : Leads P E (localClearForward x) :=
  .seq (txSignal_leads hR _) (.seq (cancel_leads hR) (convergeGlare_leads hR))

theorem acceptedNow_leads : Leads P E (acceptedNow x) :=
  .seq (upd_leads hR fun _ => rfl) (.look fun _ => notify_leads hR _)

theorem readyToAnswer_leads : Leads P E (readyToAnswer x) :=
  .look fun _ => .ite (fun _ => acceptedNow_leads hR) fun _ => arm_leads hR

theorem sendSeizeAck_leads : Leads P E (sendSeizeAck x) :=
  .seq (txSignal_leads hR _) (upd_leads hR fun _ => rfl)

/-! ### The backward side of the tone machine -/

theorem request_leads (tone : Tone) (st : MfState) (pulse : Bool) : Leads P E (request x tone st pulse) :=
  .ite (fun _ => protocolError_leads hR _) fun _ =>
    .seq (setTone_leads hR _) (.seq (upd_leads hR fun _ => rfl) (arm_leads hR))

theorem requestDnis_leads (pulse : Bool) : Leads P E (requestDnis x pulse) :=
  .look fun _ => .ite (fun _ => .seq (request_leads hR _ _ _) (upd_leads hR fun _ => rfl)) fun _ => request_leads hR _ _ _

theorem requestCategory_leads (pulse : Bool) : Leads P E (requestCategory x pulse) :=
  .look fun _ => .ite (fun _ => .seq (request_leads hR _ _ _) (upd_leads hR fun _ => rfl)) fun _ => request_leads hR _ _ _

theorem requestAni_leads (pulse : Bool) : Leads P E (requestAni x pulse) :=
  .look fun _ => request_leads hR _ _ _

theorem finishCollection_leads (pulse : Bool) : Leads P E (finishCollection x pulse) :=
  .look fun _ => .ite (fun _ => .seq (upd_leads hR fun _ => rfl) (request_leads hR _ _ _)) fun _ => request_leads hR _ _ _

theorem nextRequest_leads (pulse : Bool) : Leads P E (nextRequest x pulse) := by
  refine .look fun s => ?_
  cases nextWanted s with
  | dnis => exact requestDnis_leads hR pulse
  | category => exact requestCategory_leads hR pulse
  | ani => exact requestAni_leads hR pulse
  | finish => exact finishCollection_leads hR pulse

/-- A register change and the next request: the end of most backward rules. -/
theorem upd_nextRequest_leads {f : State → State} (pulse : Bool) (h : ∀ s, reported (f s) = reported s) :
    Leads P E (do upd f; nextRequest x pulse) := .seq (upd_leads hR h) (nextRequest_leads hR pulse)

theorem storeDnis_leads (d : Digit) : Leads P E (storeDnis x d) := by
  refine .seq (upd_leads hR fun _ => rfl) (.bind (emitGuarded_leads hR _) fun r => ?_)
  cases r with
  | none => exact .pure _
  | some r => exact upd_nextRequest_leads hR false (reported_closeDnisAfter _)

theorem closeDnis_leads : Leads P E (closeDnis x) := upd_nextRequest_leads hR false fun _ => rfl

theorem receiveDnis_leads (t : Tone) : Leads P E (receiveDnis x t) := by
  refine .look fun s => ?_
  cases toneDigit t with
  | some d => exact .ite (fun _ => storeDnis_leads hR d) fun _ => closeDnis_leads hR
  | none => exact .ite (fun _ => closeDnis_leads hR) fun _ => protocolError_leads hR _

theorem receiveCategory_leads (t : Tone) : Leads P E (receiveCategory x t) :=
  .look fun _ => .ite (fun _ => upd_nextRequest_leads hR false fun _ => rfl) fun _ => protocolError_leads hR _

theorem afterAniDigit_leads : Leads P E (afterAniDigit x) :=
  upd_nextRequest_leads hR false reported_closeAniByCount

theorem storeAni_leads (d : Digit) : Leads P E (storeAni x d) :=
  .look fun _ => .ite
    (fun _ => .seq (upd_leads hR fun _ => rfl) (.bind (emitGuarded_leads hR _) fun _ => .onlyIf (afterAniDigit_leads hR)))
    fun _ => afterAniDigit_leads hR

theorem receiveAni_leads (t : Tone) : Leads P E (receiveAni x t) := by
  refine .look fun _ => .ite (fun _ => upd_nextRequest_leads hR false fun _ => rfl) fun _ =>
    .ite (fun _ => upd_nextRequest_leads hR false fun _ => rfl) fun _ => ?_
  cases toneDigit t with
  | some d => exact storeAni_leads hR d
  | none => exact protocolError_leads hR _

theorem receiveGroupII_leads (t : Tone) : Leads P E (receiveGroupII x t) :=
  .look fun _ => .ite (fun _ => .seq (upd_leads hR fun _ => rfl) (notify_leads hR _)) fun _ => protocolError_leads hR _

theorem backwardGroupToneOn_leads (t : Tone) (st : MfState) : Leads P E (backwardGroupToneOn x t st) := by
  cases st with
  | dnisRqTxd => exact receiveDnis_leads hR t
  | categoryRqTxd => exact receiveCategory_leads hR t
  | aniRqTxd => exact receiveAni_leads hR t
  | chgGiiTxd => exact receiveGroupII_leads hR t
  | _ => exact protocolError_leads hR _

theorem firstForwardTone_leads (t : Tone) : Leads P E (firstForwardTone x t) :=
  .look fun _ => .ite (fun _ => .seq (upd_leads hR fun _ => rfl) (receiveDnis_leads hR t)) fun _ =>
    protocolError_leads hR _

theorem backwardToneOnGroup_leads (t : Tone) (st : MfState) (g : MfGroup) :
    Leads P E (backwardToneOnGroup x t st g) := by
  cases g with
  | backInit => exact firstForwardTone_leads hR t
  | ga | gc => exact backwardGroupToneOn_leads hR t st
  | dtmfBackInit => exact .pure _
  | _ => exact protocolError_leads hR _

theorem backwardToneOn_leads (t : Tone) : Leads P E (backwardToneOn x t) :=
  .seq (upd_leads hR (reported_cancelEach _)) (.look fun _ => backwardToneOnGroup_leads hR t _ _)

theorem offerCall_leads : Leads P E (offerCall x) :=
  .seq (upd_leads hR fun _ => rfl) (.look fun _ => notify_leads hR _)

theorem acceptToneDone_leads : Leads P E (acceptToneDone x) :=
  .seq (mfRelease_leads hR) (.seq (upd_leads hR fun _ => rfl)
    (.look fun _ => .ite (fun _ => offerCall_leads hR) fun _ => readyToAnswer_leads hR))

theorem disconnectToneDone_leads : Leads P E (disconnectToneDone x) :=
  .seq (txSignal_leads hR _) (.seq (cancel_leads hR) (.seq (mfRelease_leads hR) (upd_leads hR fun _ => rfl)))

theorem backwardToneOffIn_leads (st : MfState) : Leads P E (backwardToneOffIn x st) := by
  cases st with
  | disconnectTxd => exact disconnectToneDone_leads hR
  | acceptedTxd => exact .seq (cancel_leads hR) (acceptToneDone_leads hR)
  | seizeAckTxd | categoryRqTxd | dnisRqTxd | aniRqTxd | chgGiiTxd => exact setTone_leads hR 0
  | detectingDtmf => exact .pure _
  | _ => exact protocolError_leads hR _

theorem backwardToneOff_leads : Leads P E (backwardToneOff x) := .look fun _ => backwardToneOffIn_leads hR _

/-! ### The forward side of the tone machine -/

theorem dueDnis_leads (i : Nat) : Leads P E (upd (dueDnis i)) := upd_leads hR (reported_dueDnis i)

theorem dueNextDnis_leads : Leads P E (upd dueNextDnis) := upd_leads hR fun _ => reported_dueDnis _ _

theorem dueAni_leads : Leads P E (upd dueAni) := upd_leads hR reported_dueAni

theorem sendDigit_leads (d : Digit) : Leads P E (sendDigit x d) :=
  .ite (fun _ => protocolError_leads hR _) fun _ => setTone_leads hR _

theorem sendDnisDigit_leads : Leads P E (sendDnisDigit x) :=
  .look fun _ => .bind (readDigit_leads hR _ _) fun _ => sendDigit_leads hR _

theorem sendAniDigit_leads : Leads P E (sendAniDigit x) :=
  .look fun _ => .bind (readDigit_leads hR _ _) fun _ => .seq (sendDigit_leads hR _) (upd_leads hR fun _ => rfl)

theorem sendCategory_leads : Leads P E (sendCategory x) :=
  .look fun _ => .seq (setTone_leads hR _) (upd_leads hR fun _ => rfl)

theorem sendDueIn_leads (s : State) (st : MfState) : Leads P E (sendDueIn x s st) := by
  cases st with
  | dnisTxd => exact sendDnisDigit_leads hR
  | aniTxd => exact sendAniDigit_leads hR
  | dnisEndTxd | aniEndTxd => exact setTone_leads hR _
  | categoryTxd => exact sendCategory_leads hR
  | waitingTimeout => exact .pure _
  | _ => exact protocolError_leads hR _

theorem sendDue_leads : Leads P E (sendDue x) := .look fun s => sendDueIn_leads hR s _

theorem forwardStart_leads : Leads P E (forwardStart x) :=
  .seq (upd_leads hR fun _ => rfl) (.seq (dueDnis_leads hR 0) (sendDue_leads hR))

theorem offsetDnis_leads (k : Nat) : Leads P E (offsetDnis x k) :=
  .look fun _ => .ite (fun _ => protocolError_leads hR _) fun _ => dueDnis_leads hR _

theorem acceptSeen_leads (mode : Mode) : Leads P E (acceptSeen x mode) :=
  .seq (upd_leads hR fun _ => rfl) (.look fun _ => .ite (fun _ => acceptThenAnswer_leads hR mode) fun _ =>
    .seq (upd_leads hR fun _ => reported_arm _ _) (notify_leads hR _))

theorem mfDisconnect_leads (cause : Cause) : Leads P E (mfDisconnect x cause) :=
  .seq (cancel_leads hR) (.seq (upd_leads hR fun _ => rfl) (notify_leads hR _))

theorem decodeGroupA_leads (t : Tone) : Leads P E (decodeGroupA x t) :=
  .look fun _ =>
    .ite (fun _ => dueNextDnis_leads hR) fun _ =>
    .ite (fun _ => offsetDnis_leads hR 1) fun _ =>
    .ite (fun _ => offsetDnis_leads hR 2) fun _ =>
    .ite (fun _ => offsetDnis_leads hR 3) fun _ =>
    .ite (fun _ => dueDnis_leads hR 0) fun _ =>
    .ite (fun _ => upd_leads hR fun _ => rfl) fun _ =>
    .ite (fun _ => upd_leads hR fun _ => rfl) fun _ =>
    .ite (fun _ => dueAni_leads hR) fun _ =>
    .ite (fun _ => upd_leads hR fun _ => rfl) fun _ =>
    .ite (fun _ => upd_leads hR fun _ => rfl) fun _ =>
    .ite (fun _ => acceptSeen_leads hR _) fun _ =>
    .ite (fun _ => mfDisconnect_leads hR _) fun _ => protocolError_leads hR _

theorem decodeGroupC_leads (t : Tone) : Leads P E (decodeGroupC x t) :=
  .look fun _ =>
    .ite (fun _ => dueAni_leads hR) fun _ =>
    .ite (fun _ => upd_leads hR fun _ => rfl) fun _ =>
    .ite (fun _ => upd_leads hR fun _ => reported_dueDnis _ _) fun _ =>
    .ite (fun _ => mfDisconnect_leads hR _) fun _ => protocolError_leads hR _

theorem decodeGroupB_leads (t : Tone) : Leads P E (decodeGroupB x t) :=
  .look fun _ =>
    .ite (fun _ => acceptSeen_leads hR _) fun _ =>
    .ite (fun _ => acceptSeen_leads hR _) fun _ =>
    .ite (fun _ => acceptSeen_leads hR _) fun _ =>
    .ite (fun _ => mfDisconnect_leads hR _) fun _ =>
    .ite (fun _ => mfDisconnect_leads hR _) fun _ =>
    .ite (fun _ => mfDisconnect_leads hR _) fun _ =>
    .ite (fun _ => mfDisconnect_leads hR _) fun _ =>
    .ite (fun _ => mfDisconnect_leads hR _) fun _ =>
    .ite (fun _ => mfDisconnect_leads hR _) fun _ => protocolError_leads hR _

theorem forwardToneOnGroup_leads (t : Tone) (g : MfGroup) : Leads P E (forwardToneOnGroup x t g) := by
  cases g with
  | gi => exact decodeGroupA_leads hR t
  | gii => exact decodeGroupB_leads hR t
  | giii => exact decodeGroupC_leads hR t
  | _ => exact protocolError_leads hR _

theorem forwardToneOn_leads (t : Tone) : Leads P E (forwardToneOn x t) :=
  .seq (cancel_leads hR) (.seq (setTone_leads hR 0) (.look fun _ =>
    .ite (fun _ => protocolError_leads hR _) fun _ => forwardToneOnGroup_leads hR t _))

theorem forwardToneOff_leads : Leads P E (forwardToneOff x) :=
  .look fun _ => .ite (fun _ => (mfRelease_leads hR)) fun _ => sendDue_leads hR

/-! ### TONE_ON, TONE_OFF, DTMF_DIGIT -/

theorem bySide_leads {backward forward : Act Unit} (hb : Leads P E backward)
    (hf : Leads P E forward) (d : Direction) : Leads P E (bySide x backward forward d) := by
  cases d with
  | backward => exact hb
  | forward => exact hf
  | stopped | unassigned => exact protocolError_leads hR _

theorem newTone_leads (t : Tone) : Leads P E (newTone x t) :=
  .seq (upd_leads hR fun _ => rfl) (.look fun _ =>
    .seq (bySide_leads hR (backwardToneOn_leads hR t) (forwardToneOn_leads hR t) _) (status_leads hR _))

theorem toneOn_leads (t : Tone) : Leads P E (toneOn t x) :=
  .look fun _ => .ite (fun _ => status_leads hR _) fun _ => .ite (fun _ => status_leads hR _) fun _ =>
    .ite (fun _ => status_leads hR _) fun _ => .ite (fun _ => protocolError_leads hR _) fun _ => newTone_leads hR t

theorem toneEnded_leads : Leads P E (toneEnded x) :=
  .seq (upd_leads hR fun _ => rfl) (.look fun _ =>
    .seq (bySide_leads hR (backwardToneOff_leads hR) (forwardToneOff_leads hR) _) (status_leads hR _))

theorem toneOff_leads : Leads P E (toneOff x) :=
  .look fun _ => .ite (fun _ => status_leads hR _) fun _ => .ite (fun _ => status_leads hR _) fun _ =>
    .ite (fun _ => status_leads hR _) fun _ => toneEnded_leads hR

theorem dtmfCollected_leads : Leads P E (dtmfCollected x) :=
  .seq (upd_leads hR fun _ => rfl) (notify_leads hR _)

theorem afterDtmfDigit_leads (stop : Bool) : Leads P E (afterDtmfDigit x stop) :=
  .look fun _ => .ite (fun _ => .pure _) fun _ => dtmfCollected_leads hR

theorem receiveDtmf_leads (d : Digit) : Leads P E (receiveDtmf x d) := by
  refine .look fun _ => .ite (fun _ => ?_) fun _ => dtmfCollected_leads hR
  refine .seq (upd_leads hR fun _ => rfl) (.bind (emitGuarded_leads hR _) fun r => ?_)
  cases r with
  | none => exact .pure _
  | some r => exact afterDtmfDigit_leads hR _

theorem firstDtmfDigit_leads (d : Digit) : Leads P E (firstDtmfDigit x d) :=
  .look fun _ => .ite (fun _ => .seq (upd_leads hR fun _ => rfl) (receiveDtmf_leads hR d)) fun _ => .pure _

theorem dtmfDigitIn_leads (d : Digit) (st : MfState) (g : MfGroup) : Leads P E (dtmfDigitIn x d st g) := by
  cases g with
  | backInit => exact firstDtmfDigit_leads hR d
  | dtmfBackInit => exact .ite (fun _ => receiveDtmf_leads hR d) fun _ => .pure _
  | _ => exact .pure _

theorem dtmfDigit_leads (d : Digit) : Leads P E (dtmfDigit d x) :=
  .look fun _ => .ite (fun _ => status_leads hR _) fun _ => .ite (fun _ => status_leads hR _) fun _ =>
    .seq (dtmfDigitIn_leads hR d _ _) (status_leads hR _)

/-! ### The line machine -/

theorem startDetector_leads : Leads P E (startDetector x) := .look fun _ => .onlyIf (dtmfRxInit_leads hR)

theorem autoSeizeAck_leads : Leads P E (autoSeizeAck x) := .look fun _ => .onlyIf (sendSeizeAck_leads hR)

theorem incomingCall_leads : Leads P E (incomingCall x) :=
  .seq (startDetector_leads hR) (.seq (mfInit_leads hR) (.seq (upd_leads hR fun _ => rfl)
    (.seq (autoSeizeAck_leads hR) (notify_leads hR _))))

theorem startExchange_leads : Leads P E (startExchange x) :=
  .look fun _ => .ite
    (fun _ => upd_leads hR fun _ => (reported_arm _ _).trans (reported_arm _ _))
    fun _ => .seq (mfInit_leads hR) (.seq (upd_leads hR fun _ => rfl) (forwardStart_leads hR))

theorem seizeAcknowledged_leads : Leads P E (seizeAcknowledged x) :=
  .seq (cancel_leads hR) (.seq (upd_leads hR fun _ => rfl) (.seq (startExchange_leads hR) (notify_leads hR _)))

theorem glareDetected_leads : Leads P E (glareDetected x) :=
  .seq (cancel_leads hR) (.seq (upd_leads hR fun _ => reported_arm _ _) (notify_leads hR _))

theorem disconnectSeen_leads (r : LineCode) : Leads P E (disconnectSeen x r) := by
  refine .look fun s => ?_
  cases classify s.cfg r with
  | some p => exact handleDisconnect_leads hR p.1 p.2
  | none => exact .pure _

theorem answerBeforeAccept_leads : Leads P E (answerBeforeAccept x) :=
  .look fun _ => .ite (fun _ => acceptThenAnswer_leads hR _) fun _ => upd_leads hR fun _ => rfl

theorem answerAfterAccept_leads : Leads P E (answerAfterAccept x) :=
  .seq (cancel_leads hR) (.seq (upd_leads hR fun _ => rfl) (notify_leads hR _))

theorem meterOrDisconnect_leads (r : LineCode) : Leads P E (meterOrDisconnect x r) :=
  .look fun _ => .ite (fun _ => .onlyIf (arm_leads hR)) fun _ => disconnectSeen_leads hR r

theorem billingPulse_leads : Leads P E (billingPulse x) :=
  .seq (cancel_leads hR) (notify_leads hR _)

theorem answerReturned_leads : Leads P E (answerReturned x) := .look fun _ => .onlyIf (billingPulse_leads hR)

theorem actIdle_leads (sig : Signal) : Leads P E (actIdle x sig) := by
  cases sig with
  | idle | block => exact notify_leads hR _
  | seize => exact incomingCall_leads hR
  | _ => exact .pure _

theorem actBlocked_leads (sig : Signal) : Leads P E (actBlocked x sig) := by
  cases sig with
  | idle | block => exact notify_leads hR _
  | _ => exact .pure _

theorem actBackwardCall_leads (sig : Signal) : Leads P E (actBackwardCall x sig) := by
  cases sig with
  | clearForward => exact clearForwardReceived_leads hR
  | _ => exact .pure _

theorem actClearBackTxd_leads (sig : Signal) : Leads P E (actClearBackTxd x sig) := by
  cases sig with
  | clearForward => exact endCall_leads hR
  | _ => exact .pure _

theorem actSeizeTxd_leads (sig : Signal) : Leads P E (actSeizeTxd x sig) := by
  cases sig with
  | seizeAck => exact seizeAcknowledged_leads hR
  | seize => exact glareDetected_leads hR
  | _ => exact .pure _

theorem actSeizeAckRxd_leads (r : LineCode) (sig : Signal) : Leads P E (actSeizeAckRxd x r sig) := by
  cases sig with
  | answer => exact answerBeforeAccept_leads hR
  | clearBack | forcedRelease => exact disconnectSeen_leads hR r
  | _ => exact .pure _

theorem actAcceptRxd_leads (r : LineCode) (sig : Signal) : Leads P E (actAcceptRxd x r sig) := by
  cases sig with
  | answer => exact answerAfterAccept_leads hR
  | clearBack | forcedRelease => exact disconnectSeen_leads hR r
  | _ => exact .pure _

theorem actAnswerRxdMfPending_leads (r : LineCode) (sig : Signal) :
    Leads P E (actAnswerRxdMfPending x r sig) := by
  cases sig with
  | clearBack | forcedRelease => exact disconnectSeen_leads hR r
  | _ => exact .pure _

theorem actAnswerRxd_leads (r : LineCode) (sig : Signal) : Leads P E (actAnswerRxd x r sig) := by
  cases sig with
  | answer => exact answerReturned_leads hR
  | clearBack | forcedRelease => exact meterOrDisconnect_leads hR r
  | _ => exact .pure _

theorem actClearForwardTxd_leads (sig : Signal) : Leads P E (actClearForwardTxd x sig) := by
  cases sig with
  | idle => exact endCall_leads hR
  | _ => exact .pure _

theorem actDoubleSeizure_leads (sig : Signal) : Leads P E (actDoubleSeizure sig) := by
  cases sig with
  | clearForward => exact upd_leads hR fun _ => rfl
  | _ => exact .pure _

theorem act_leads (r : LineCode) (sig : Signal) (st : CasState) : Leads P E (act x r sig st) := by
  cases st with
  | init | idle => exact actIdle_leads hR sig
  | blocked => exact actBlocked_leads hR sig
  | seizeRxd | seizeAckTxd | answerTxd | executingDoubleAnswer => exact actBackwardCall_leads hR sig
  | clearBackTxd => exact actClearBackTxd_leads hR sig
  | seizeTxd => exact actSeizeTxd_leads hR sig
  | seizeAckRxd => exact actSeizeAckRxd_leads hR r sig
  | acceptRxd => exact actAcceptRxd_leads hR r sig
  | answerRxdMfPending => exact actAnswerRxdMfPending_leads hR r sig
  | answerRxd => exact actAnswerRxd_leads hR r sig
  | clearForwardTxd => exact actClearForwardTxd_leads hR sig
  | doubleSeizure => exact actDoubleSeizure_leads hR sig
  | _ => exact .pure _

theorem runTable_leads : Leads P E (runTable x) := by
  refine .look fun s => .ite (fun _ => protocolError_leads hR _) fun _ => ?_
  cases s.rxSig with
  | none => exact protocolError_leads hR _
  | some sig => exact act_leads hR _ sig _

theorem commit_leads (raw : LineCode) : Leads P E (commit x raw) :=
  .seq (upd_leads hR (reported_recordSample raw)) (runTable_leads hR)

theorem lineSample_leads (raw : LineCode) : Leads P E (lineSample x raw) :=
  .look fun _ => .ite (fun _ => upd_leads hR reported_lineReverted) fun _ =>
    .ite (fun _ => .ite (fun _ => .pure _) fun _ => upd_leads hR fun _ => reported_arm _ _) fun _ =>
      commit_leads hR raw

theorem lineChanged_leads : Leads P E (lineChanged x) :=
  .bind (getLine_leads hR) fun _ => .seq (lineSample_leads hR _) (status_leads hR _)

theorem lineOp_leads : Leads P E (lineOp x) :=
  .look fun _ => .ite (fun _ => status_leads hR _) fun _ => lineChanged_leads hR

/-! ### Expiries of the call timers -/

theorem expireSeize_leads : Leads P E (expireSeize x) :=
  .look fun _ => .ite (fun _ => protocolError_leads hR _) fun _ => protocolError_leads hR _

theorem expireSeizePersist_leads : Leads P E (expireSeizePersist x) :=
  .look fun _ => .ite (fun _ => localClearForward_leads hR) fun _ => protocolError_leads hR _

theorem noAnswer_leads : Leads P E (noAnswer x) :=
  .seq (txSignal_leads hR _) (.seq (cancel_leads hR) (.seq (mfRelease_leads hR)
    (.seq (upd_leads hR fun _ => reported_arm _ _) (notify_leads hR _))))

theorem expireAnswer_leads : Leads P E (expireAnswer x) :=
  .look fun _ => .ite (fun _ => noAnswer_leads hR) fun _ => protocolError_leads hR _

theorem expireAnswerDelay_leads : Leads P E (expireAnswerDelay x) :=
  .look fun _ => .ite (fun _ => acceptedNow_leads hR) fun _ => protocolError_leads hR _

theorem toggleOff_leads : Leads P E (toggleOff x) := .seq (txSignal_leads hR _) (arm_leads hR)

theorem toggleOn_leads : Leads P E (toggleOn x) := .seq (txSignal_leads hR _) (upd_leads hR fun _ => rfl)

theorem expireDoubleAnswer_leads : Leads P E (expireDoubleAnswer x) :=
  .look fun _ => .ite (fun _ => protocolError_leads hR _) fun _ => .ite (fun _ => toggleOff_leads hR) fun _ =>
    .ite (fun _ => toggleOn_leads hR) fun _ => protocolError_leads hR _

theorem expireMeteringPulse_leads : Leads P E (expireMeteringPulse x) := by
  refine .look fun s => .ite (fun _ => protocolError_leads hR _) fun _ => ?_
  cases classify s.cfg s.rxCode with
  | some p => exact handleDisconnect_leads hR p.1 p.2
  | none => exact protocolError_leads hR _

theorem expireMfBackCycle_leads : Leads P E (expireMfBackCycle x) :=
  .look fun _ => .ite (fun _ => upd_nextRequest_leads hR true fun _ => rfl) fun _ =>
    .ite (fun _ => upd_nextRequest_leads hR true fun _ => rfl) fun _ => protocolError_leads hR _

theorem expireMfBackResumeCycle_leads : Leads P E (expireMfBackResumeCycle x) :=
  .seq (setTone_leads hR 0) (.look fun _ => .ite (fun _ => acceptToneDone_leads hR) fun _ => arm_leads hR)

theorem startDialing_leads : Leads P E (startDialing x) :=
  .seq (dtmfTxStart_leads hR) (upd_leads hR fun _ => rfl)

theorem expireDtmfStartDial_leads : Leads P E (expireDtmfStartDial x) :=
  .look fun _ => .ite (fun _ => startDialing_leads hR) fun _ => protocolError_leads hR _

/-- The gate of TIMER_EXP (R244). -/
theorem timerExp_leads (t : Timer) {effect : Ctx → Act Unit} (h : Leads P E (effect x)) :
    Leads P E (timerExp t effect x) :=
  .look fun _ => .ite (fun _ => status_leads hR _) fun _ => .ite (fun _ => status_leads hR _) fun _ =>
    .seq (upd_leads hR (reported_disarm t)) (.seq h (status_leads hR _))



/-! ### The expiry of the persistence check -/

theorem persistenceDecided_leads (raw : LineCode) : Leads P E (persistenceDecided x raw) :=
  .look fun _ => .ite (fun _ => commit_leads hR raw) fun _ =>
    .seq (upd_leads hR fun _ => rfl) (lineSample_leads hR raw)

theorem expireCasPersistenceCheck_leads : Leads P E (expireCasPersistenceCheck x) :=
  .ite (fun _ => .seq (upd_leads hR fun _ => rfl) (ioError_leads hR _)) fun _ => persistenceDecided_leads hR _

/-! ### Call control -/

/-- MAKE_CALL writes the staging buffers: `P` must not depend on them, or the rule is not for it. -/
theorem makeCall_leads (hopen : ∀ c r s, P s → P (openCall c r s)) (category : Category) (restricted : Bool) :
    Leads P E (makeCall category restricted x) :=
  .look fun _ => .ite
    (fun _ => .seq (txSignal_leads hR _) (.seq (.upd (hopen _ _)) (.seq (arm_leads hR) (status_leads hR _))))
    fun _ => status_leads hR _

theorem ackCall_leads : Leads P E (ackCall x) :=
  .look fun _ => .ite (fun _ => .seq (sendSeizeAck_leads hR) (status_leads hR _)) fun _ => status_leads hR _

theorem acceptByTone_leads (mode : Mode) : Leads P E (acceptByTone mode x) :=
  .look fun _ => .ite (fun _ => status_leads hR _) fun _ =>
    .seq (setTone_leads hR _) (.seq (upd_leads hR fun _ => reported_arm _ _) (status_leads hR _))

theorem acceptDtmf_leads (mode : Mode) : Leads P E (acceptDtmf mode x) :=
  .seq (mfRelease_leads hR) (.seq (upd_leads hR fun _ => rfl) (.seq (acceptedNow_leads hR) (status_leads hR _)))

theorem acceptAgain_leads : Leads P E (acceptAgain x) := .seq (readyToAnswer_leads hR) (status_leads hR _)

theorem acceptCall_leads (mode : Mode) : Leads P E (acceptCall mode x) :=
  .look fun _ => .ite (fun _ => status_leads hR _) fun _ => .ite (fun _ => acceptByTone_leads hR mode) fun _ =>
    .ite (fun _ => acceptDtmf_leads hR mode) fun _ => acceptAgain_leads hR

theorem answerTx_leads (double : Bool) : Leads P E (answerTx double x) :=
  .seq (txSignal_leads hR _) (.seq (cancel_leads hR) (.seq (mfRelease_leads hR) (.seq (upd_leads hR fun _ => rfl)
    (.seq (upd_leads hR (reported_answerSent double)) (upd_leads hR fun _ => rfl)))))

theorem guardedAnswer_leads (double : Bool) : Leads P E (guardedAnswer double x) :=
  .look fun _ => .ite (fun _ => .seq (answerTx_leads hR double) (status_leads hR _)) fun _ => status_leads hR _

theorem answerCall_leads : Leads P E (answerCall x) := .look fun _ => guardedAnswer_leads hR _

theorem disconnectByTone_leads (cause : Cause) : Leads P E (disconnectByTone cause x) :=
  .look fun _ => .seq (setTone_leads hR _) (upd_leads hR fun _ => reported_arm _ _)

theorem disconnectByLine_leads (cause : Cause) : Leads P E (disconnectByLine cause x) :=
  .look fun _ => .seq (txSignal_leads hR _) (.seq (upd_leads hR reported_cancelCallTimers)
    (.seq (mfRelease_leads hR) (upd_leads hR fun _ => rfl)))

theorem disconnectBackward_leads (cause : Cause) : Leads P E (disconnectBackward cause x) :=
  .look fun _ => .ite (fun _ => disconnectByTone_leads hR cause) fun _ => disconnectByLine_leads hR cause

theorem clearForward_leads : Leads P E (clearForward x) :=
  .seq (txSignal_leads hR _) (.seq (upd_leads hR reported_cancelCallTimers)
    (.seq (mfRelease_leads hR) (upd_leads hR fun _ => reported_arm _ _)))

theorem disconnectForward_leads : Leads P E (disconnectForward x) :=
  .look fun _ => .ite (fun _ => localClearForward_leads hR) fun _ => clearForward_leads hR

theorem thenOk_leads {m : Act Unit} (h : Leads P E m) : Leads P E (thenOk m) :=
  .seq h (status_leads hR _)

theorem disconnectByDirection_leads (cause : Cause) (d : Direction) :
    Leads P E (disconnectByDirection cause x d) := by
  cases d with
  | backward => exact thenOk_leads hR (disconnectBackward_leads hR cause)
  | forward => exact thenOk_leads hR (disconnectForward_leads hR)
  | stopped | unassigned => exact status_leads hR _

theorem disconnectCall_leads (cause : Cause) : Leads P E (disconnectCall cause x) :=
  .look fun _ => .ite (fun _ => status_leads hR _) fun _ => .ite (fun _ => status_leads hR _) fun _ =>
    .ite (fun _ => thenOk_leads hR (endCall_leads hR)) fun _ => disconnectByDirection_leads hR cause _

theorem setIdle_leads : Leads P E (setIdle x) :=
  .seq (txSignal_leads hR _) (.seq (upd_leads hR reported_resetBaseline) (status_leads hR _))

theorem setBlocked_leads : Leads P E (setBlocked x) :=
  .seq (txSignal_leads hR _) (.seq (upd_leads hR reported_resetBaseline) (.seq (upd_leads hR fun _ => rfl) (status_leads hR _)))

theorem stageClr_leads (hstage : ∀ s, P s → P { s with stageAni := [], stageDnis := [] }) :
    Leads P E (stageClr x) := .seq (.upd hstage) (status_leads hR _)

theorem stageAni_leads (hstage : ∀ (d : Digit) s, P s → P { s with stageAni := s.stageAni ++ [d] }) (d : Digit) :
    Leads P E (stageAni d x) :=
  .look fun _ => .ite (fun _ => status_leads hR _) fun _ => .seq (.upd (hstage d)) (status_leads hR _)

theorem stageDnis_leads (hstage : ∀ (d : Digit) s, P s → P { s with stageDnis := s.stageDnis ++ [d] }) (d : Digit) :
    Leads P E (stageDnis d x) :=
  .look fun _ => .ite (fun _ => status_leads hR _) fun _ => .seq (.upd (hstage d)) (status_leads hR _)

/-- ALARM 1 sets the flag (R296). -/
theorem alarmRaise_leads (hraise : ∀ s, P s → P (freeze s)) : Leads P E (alarmRaise x) :=
  .look fun _ => .ite (fun _ => status_leads hR _) fun _ => .seq (.upd hraise) (status_leads hR _)

/-- ALARM 0 clears the flag, and its error path is no end of the operation (R297). -/
theorem alarmClear_leads (hclear : ∀ s, P s → P { s with alarm := false, rxValid := false })
    (herror : Leads P E (notify x (.protocolError .alarmRaised))) : Leads P E (alarmClear x) := by
  have hpath : Leads P E (errorPath x .alarmRaised) :=
    .seq (upd_leads hR (reported_output rfl)) (.seq (errorIdle_leads hR)
      (.seq (upd_leads hR reported_resetBaseline) herror))
  have hresync : Leads P E (resync x) :=
    .bind (getLine_leads hR) fun _ => .seq (.upd hclear) (.seq (.look fun _ => .onlyIf hpath)
      (.seq (lineSample_leads hR _) (status_leads hR _)))
  exact .look fun _ => .ite (fun _ => hresync) fun _ => status_leads hR _

end Rules

end Sys2Proof.Machine
end

section
/-! PROOFS. Each operation as the run of one rule, and what the regimes give of every operation: nothing stops it and it ends
in a STATUS; a refused one changes nothing; it raises at most one protocol error; the alarm flag and the staging buffers have
their owners. -/

namespace Sys2Proof.Machine

/-! ### The rule of an operation -/

/-- The rule an operation runs, at top level or nested. -/
def ruleOf : Instr → Ctx → Act Unit
  | .line _ => lineOp
  | .toneOn tone _ => toneOn tone
  | .toneOff _ => toneOff
  | .dtmfDigit digit _ => dtmfDigit digit
  | .timerExpSeize _ => timerExp .seize expireSeize
  | .timerExpSeizePersist _ => timerExp .seizePersist expireSeizePersist
  | .timerExpAnswer _ => timerExp .answer expireAnswer
  | .timerExpAnswerDelay _ => timerExp .answerDelay expireAnswerDelay
  | .timerExpDoubleAnswer _ => timerExp .doubleAnswer expireDoubleAnswer
  | .timerExpSetCallDown _ => timerExp .setCallDown expireSetCallDown
  | .timerExpMeteringPulse _ => timerExp .meteringPulse expireMeteringPulse
  | .timerExpMfBackCycle _ => timerExp .mfBackCycle expireMfBackCycle
  | .timerExpMfBackResumeCycle _ => timerExp .mfBackResumeCycle expireMfBackResumeCycle
  | .timerExpMfFwdSafety _ => timerExp .mfFwdSafety expireMfFwdSafety
  | .timerExpDtmfStartDial _ => timerExp .dtmfStartDial expireDtmfStartDial
  | .timerExpCasPersistenceCheck _ => timerExp .casPersistenceCheck expireCasPersistenceCheck
  | .makeCall category restricted _ => makeCall category restricted
  | .acceptCall mode _ => acceptCall mode
  | .answerCall _ => answerCall
  | .answerCallMode double _ => answerCallMode double
  | .disconnectCall cause _ => disconnectCall cause
  | .ackCall _ => ackCall
  | .setIdle _ => setIdle
  | .setBlocked _ => setBlocked
  | .alarm raised _ => alarm raised
  | .stageClr _ => stageClr
  | .stageAni digit _ => stageAni digit
  | .stageDnis digit _ => stageDnis digit

/-- A well-formed operation is the run of its rule (R10). -/
theorem exec_eq_runTop {i : Instr} (h : i.wf = true) (s : State) : exec i s = runTop (envOf i) (ruleOf i) s := by
  cases i with
  | toneOn tone env => exact if_pos h
  | _ => rfl

/-- The one ill-formed operation answers BadOp (R93, R95; log entry 7). -/
theorem exec_illFormed {i : Instr} (h : i.wf = false) (s : State) : exec i s = .next (ended [] .badOp s) := by
  cases i with
  | toneOn tone env =>
    have ht : ¬ toneWellFormed tone = true := by
      intro e
      rw [Instr.wf, e] at h
      cases h
    exact if_neg ht
  | _ => cases h

/-- A nested operation runs the same rule, if it is a call-control operation (R97). -/
theorem nestedOperation_eq (x : Ctx) (i : Instr) :
    nestedOperation x i = if isCallControl i = true then ruleOf i x else pure () := by
  cases i <;> rfl

theorem runTop_eq (env : Env) (op : Ctx → Act Unit) (s : State) :
    runTop env op s = .next (dropResponses (lastState (op (topCtx env) (startTrace s)))) := by
  unfold runTop
  cases op (topCtx env) (startTrace s) <;> rfl

/-- Whether an operation may write the alarm flag or the staging buffers. -/
def writesReported : Instr → Bool
  | .makeCall _ _ _ | .alarm _ _ | .stageClr _ | .stageAni _ _ | .stageDnis _ _ => true
  | _ => false

/-- Every rule keeps a regime, if those do that write what `reported` shows. -/
theorem ruleOf_leads {x : Ctx} {P E : State → Prop} (hR : Regime x P E) (i : Instr)
    (hwrites : writesReported i = true → Leads P E (ruleOf i x)) : Leads P E (ruleOf i x) := by
  cases i with
  | line _ => exact lineOp_leads hR
  | toneOn tone _ => exact toneOn_leads hR tone
  | toneOff _ => exact toneOff_leads hR
  | dtmfDigit digit _ => exact dtmfDigit_leads hR digit
  | timerExpSeize _ => exact timerExp_leads hR _ (expireSeize_leads hR)
  | timerExpSeizePersist _ => exact timerExp_leads hR _ (expireSeizePersist_leads hR)
  | timerExpAnswer _ => exact timerExp_leads hR _ (expireAnswer_leads hR)
  | timerExpAnswerDelay _ => exact timerExp_leads hR _ (expireAnswerDelay_leads hR)
  | timerExpDoubleAnswer _ => exact timerExp_leads hR _ (expireDoubleAnswer_leads hR)
  | timerExpSetCallDown _ => exact timerExp_leads hR _ (endCall_leads hR)
  | timerExpMeteringPulse _ => exact timerExp_leads hR _ (expireMeteringPulse_leads hR)
  | timerExpMfBackCycle _ => exact timerExp_leads hR _ (expireMfBackCycle_leads hR)
  | timerExpMfBackResumeCycle _ => exact timerExp_leads hR _ (expireMfBackResumeCycle_leads hR)
  | timerExpMfFwdSafety _ => exact timerExp_leads hR _ (protocolError_leads hR _)
  | timerExpDtmfStartDial _ => exact timerExp_leads hR _ (expireDtmfStartDial_leads hR)
  | timerExpCasPersistenceCheck _ => exact timerExp_leads hR _ (expireCasPersistenceCheck_leads hR)
  | acceptCall mode _ => exact acceptCall_leads hR mode
  | answerCall _ => exact answerCall_leads hR
  | answerCallMode double _ => exact guardedAnswer_leads hR double
  | disconnectCall cause _ => exact disconnectCall_leads hR cause
  | ackCall _ => exact ackCall_leads hR
  | setIdle _ => exact setIdle_leads hR
  | setBlocked _ => exact setBlocked_leads hR
  | makeCall _ _ _ | alarm _ _ | stageClr _ | stageAni _ _ | stageDnis _ _ => exact hwrites rfl

/-- What an operation leaves, from what its rule leads to. -/
theorem exec_of_leads {P E Q : State → Prop} {i : Instr} {s t : State}
    (hop : Leads P E (ruleOf i (topCtx (envOf i)))) (hs : P (startTrace s))
    (hbad : Q (ended [] .badOp s)) (hP : ∀ u, P u → Q (dropResponses u)) (hE : ∀ u, E u → Q (dropResponses u))
    (h : exec i s = .next t) : Q t := by
  cases hwf : i.wf
  · rw [exec_illFormed hwf] at h
    cases h
    exact hbad
  · rw [exec_eq_runTop hwf] at h
    have hlast := hop _ hs
    unfold runTop at h
    cases heq : ruleOf i (topCtx (envOf i)) (startTrace s) with
    | ok a u => rw [heq] at h hlast; cases h; exact hP u hlast
    | error e u => rw [heq] at h hlast; cases h; exact hE u hlast

/-! ### Events -/

/-- An event has left and its response is read (R316); the nested operation has still to run. -/
def told (ev : Event) (s : State) : State := { s with out := s.out ++ [.evt ev], resp := s.resp.tail }

theorem emit_eq (x : Ctx) (ev : Event) (s : State) :
    emit x ev s = (onlyIf (respHasOp (s.resp.headD 0)) (x.reenter (respOpWord (s.resp.headD 0))) >>= fun _ =>
      pure (s.resp.headD 0)) (told ev s) := by
  unfold emit
  rw [upd_bind, bind_ok (nextResponse_apply _)]
  rfl

/-- An event keeps what the event itself and the operation nested in its response keep. -/
theorem Leads.emit {x : Ctx} {P E : State → Prop} {ev : Event} (htold : ∀ s, P s → P (told ev s))
    (hnest : ∀ s, P s → respHasOp (s.resp.headD 0) = true → Leads P E (x.reenter (respOpWord (s.resp.headD 0)))) :
    Leads P E (Machine.emit x ev) := by
  intro s hs
  rw [emit_eq]
  refine Leads.bind (P := P) (E := E) ?_ (fun _ => Leads.pure _) (told ev s) (htold s hs)
  cases hop : respHasOp (s.resp.headD 0)
  · exact Leads.pure _
  · exact hnest s hs hop

theorem Leads.notify {x : Ctx} {P E : State → Prop} {ev : Event} (h : Leads P E (Machine.emit x ev)) :
    Leads P E (Machine.notify x ev) := .bind h fun _ => .pure _

end Sys2Proof.Machine
end

section
/-! PROOFS. How operations end: the last action is a STATUS, and where it refuses, it is the only one
(spec/60_exceptions.md sections 1 and 4). -/

namespace Sys2Proof.Machine

/-! ### The end of an operation that was not refused -/

/-- The last action is STATUS Ok or IoError. -/
def EndsServed (s : State) : Prop := ∃ acts, ∃ st ∈ [Status.ok, .ioError], s.out = acts ++ [Action.status st]

theorem endsServed_ok (s : State) : EndsServed (output (.status .ok) s) := ⟨s.out, .ok, by simp, rfl⟩

theorem endsServed_ioError (s : State) : EndsServed (output (.status .ioError) s) := ⟨s.out, .ioError, by simp, rfl⟩

/-- An operation ended inside a rule ends in STATUS Ok or IoError, if one ended inside a nested word does (R331, R338). -/
theorem served_regime {x : Ctx} (hnest : ∀ w, Leads (fun _ => True) EndsServed (x.reenter w)) :
    Regime x (fun _ => True) EndsServed := by
  have hemit : ∀ ev, Leads (fun _ => True) EndsServed (emit x ev) :=
    fun ev => .emit (fun _ _ => trivial) fun _ _ _ => hnest _
  exact ⟨fun _ _ _ _ => trivial, fun ev _ => hemit ev, fun s _ => endsServed_ioError s,
    fun kind => (hemit _).notify.closes fun s _ => endsServed_ok s⟩

theorem ruleOf_served {x : Ctx} (hnest : ∀ w, Leads (fun _ => True) EndsServed (x.reenter w)) (i : Instr) :
    Leads (fun _ => True) EndsServed (ruleOf i x) := by
  have hR := served_regime hnest
  refine ruleOf_leads hR i fun _ => ?_
  cases i with
  | makeCall category restricted _ => exact makeCall_leads hR (fun _ _ _ _ => trivial) category restricted
  | alarm raised _ =>
    exact .ite (fun _ => alarmRaise_leads hR fun _ _ => trivial) fun _ =>
      alarmClear_leads hR (fun _ _ => trivial) (.notify (.emit (fun _ _ => trivial) fun _ _ _ => hnest _))
  | stageClr _ => exact stageClr_leads hR fun _ _ => trivial
  | stageAni digit _ => exact stageAni_leads hR (fun _ _ _ => trivial) digit
  | stageDnis digit _ => exact stageDnis_leads hR (fun _ _ _ => trivial) digit
  | _ => contradiction

/-- Nested words, at every level. -/
theorem reenter_served (env : Env) (n : Nat) (w : OpBits) :
    Leads (fun _ => True) EndsServed (reenter env n w) := by
  induction n generalizing w with
  | zero => exact .pure _
  | succ n ih =>
    show Leads _ _ (nestedWord _ w)
    unfold nestedWord
    split
    · rw [nestedOperation_eq]
      exact .ite (fun _ => ruleOf_served ih _) fun _ => .pure _
    · exact .pure _

theorem topCtx_served (env : Env) : Regime (topCtx env) (fun _ => True) EndsServed :=
  served_regime (reenter_served env _)

/-! ### A rule refuses, or ends served -/

/-- From every state `m` ends in STATUS Ok or IoError, whether it reaches its end or not. -/
def Serves (m : Act Unit) : Prop := ∀ s, EndsServed (lastState (m s))

/-- From `s`, `m` does nothing but report a STATUS, or it ends in STATUS Ok or IoError. -/
def Reports (m : Act Unit) (s : State) : Prop := (∃ st, m s = status st s) ∨ EndsServed (lastState (m s))

theorem Serves.ok : Serves (status .ok) := endsServed_ok

theorem Serves.after {α : Type} {m : Act α} {n : α → Act Unit} (hm : Leads (fun _ => True) EndsServed m)
    (hn : ∀ a, Serves (n a)) : Serves (m >>= n) := by
  intro s
  have h := hm s trivial
  rw [bind_apply]
  cases heq : m s with
  | ok a s' => exact hn a s'
  | error e s' => simpa [heq, lastState] using h

/-- Nothing runs after a protocol error (R332). -/
theorem protocolError_bind {α β : Type} (x : Ctx) (kind : ErrorKind) (f : α → Act β) :
    (protocolError x kind >>= f) = protocolError x kind := by
  unfold protocolError
  simp only [bind_assoc]
  rfl

theorem Serves.protocolError {x : Ctx} (hR : Regime x (fun _ => True) EndsServed) (kind : ErrorKind) :
    Serves (Machine.protocolError x kind) := by
  rw [← protocolError_bind x kind fun _ : Unit => status .ok]
  exact .after (protocolError_leads hR kind) fun _ => .ok

theorem Serves.reports {m : Act Unit} (h : Serves m) (s : State) : Reports m s := .inr (h s)

theorem Reports.status (st : Status) (s : State) : Reports (Machine.status st) s := .inl ⟨st, rfl⟩

theorem Reports.ite {c : Prop} [Decidable c] {m n : Act Unit} {s : State} (hm : c → Reports m s)
    (hn : ¬ c → Reports n s) : Reports (if c then m else n) s := by
  split
  · exact hm ‹_›
  · exact hn ‹_›

section Rules
variable {x : Ctx} (hR : Regime x (fun _ => True) EndsServed) (s : State)
include hR

theorem timerExp_reports (t : Timer) {effect : Ctx → Act Unit} (h : Leads (fun _ => True) EndsServed (effect x)) :
    Reports (timerExp t effect x) s :=
  .ite (fun _ => .status _ s) fun _ => .ite (fun _ => .status _ s) fun _ =>
    Serves.reports (.after (upd_leads hR (reported_disarm t)) fun _ => .after h fun _ => .ok) s

theorem lineOp_reports : Reports (lineOp x) s :=
  .ite (fun _ => .status _ s) fun _ =>
    Serves.reports (.after (getLine_leads hR) fun _ => .after (lineSample_leads hR _) fun _ => .ok) s

theorem newTone_serves (t : Tone) : Serves (newTone x t) :=
  .after (upd_leads hR fun _ => rfl) fun _ s =>
    Serves.after (bySide_leads hR (backwardToneOn_leads hR t) (forwardToneOn_leads hR t) s.direction) (fun _ => .ok) s

theorem toneOn_reports (t : Tone) : Reports (toneOn t x) s :=
  .ite (fun _ => .status _ s) fun _ => .ite (fun _ => .status _ s) fun _ => .ite (fun _ => .status _ s) fun _ =>
    .ite (fun _ => (Serves.protocolError hR _).reports s) fun _ => (newTone_serves hR t).reports s

theorem toneEnded_serves : Serves (toneEnded x) :=
  .after (upd_leads hR fun _ => rfl) fun _ s =>
    Serves.after (bySide_leads hR (backwardToneOff_leads hR) (forwardToneOff_leads hR) s.direction) (fun _ => .ok) s

theorem toneOff_reports : Reports (toneOff x) s :=
  .ite (fun _ => .status _ s) fun _ => .ite (fun _ => .status _ s) fun _ => .ite (fun _ => .status _ s) fun _ =>
    (toneEnded_serves hR).reports s

theorem dtmfDigit_reports (d : Digit) : Reports (dtmfDigit d x) s :=
  .ite (fun _ => .status _ s) fun _ => .ite (fun _ => .status _ s) fun _ =>
    Serves.reports (.after (dtmfDigitIn_leads hR d _ _) fun _ => .ok) s

theorem makeCall_reports (category : Category) (restricted : Bool) : Reports (makeCall category restricted x) s :=
  .ite
    (fun _ => Serves.reports (.after (txSignal_leads hR _) fun _ => .after (.upd fun _ _ => trivial) fun _ =>
      .after (arm_leads hR) fun _ => .ok) s)
    fun _ => .status _ s

theorem ackCall_reports : Reports (ackCall x) s :=
  .ite (fun _ => Serves.reports (.after (sendSeizeAck_leads hR) fun _ => .ok) s) fun _ => .status _ s

theorem acceptByTone_reports (mode : Mode) : Reports (acceptByTone mode x) s := by
  refine .ite (fun _ => .status _ s) fun _ => Serves.reports (.after (setTone_leads hR _) fun _ => ?_) s
  exact .after (upd_leads hR fun _ => reported_arm _ _) fun _ => .ok

theorem acceptDtmf_serves (mode : Mode) : Serves (acceptDtmf mode x) :=
  .after (mfRelease_leads hR) fun _ => .after (upd_leads hR fun _ => rfl) fun _ =>
    .after (acceptedNow_leads hR) fun _ => .ok

theorem acceptCall_reports (mode : Mode) : Reports (acceptCall mode x) s :=
  .ite (fun _ => .status _ s) fun _ => .ite (fun _ => acceptByTone_reports hR s mode) fun _ =>
    .ite (fun _ => (acceptDtmf_serves hR mode).reports s) fun _ =>
      Serves.reports (.after (readyToAnswer_leads hR) fun _ => .ok) s

theorem guardedAnswer_reports (double : Bool) : Reports (guardedAnswer double x) s :=
  .ite (fun _ => Serves.reports (.after (answerTx_leads hR double) fun _ => .ok) s) fun _ => .status _ s

theorem disconnectByDirection_reports (cause : Cause) (d : Direction) :
    Reports (disconnectByDirection cause x d) s := by
  cases d with
  | backward => exact Serves.reports (.after (disconnectBackward_leads hR cause) fun _ => .ok) s
  | forward => exact Serves.reports (.after (disconnectForward_leads hR) fun _ => .ok) s
  | stopped | unassigned => exact .status _ s

theorem disconnectCall_reports (cause : Cause) : Reports (disconnectCall cause x) s :=
  .ite (fun _ => .status _ s) fun _ => .ite (fun _ => .status _ s) fun _ =>
    .ite (fun _ => Serves.reports (.after (endCall_leads hR) fun _ => .ok) s) fun _ =>
      disconnectByDirection_reports hR s cause _

theorem setIdle_serves : Serves (setIdle x) :=
  .after (txSignal_leads hR _) fun _ => .after (upd_leads hR reported_resetBaseline) fun _ => .ok

theorem setBlocked_serves : Serves (setBlocked x) :=
  .after (txSignal_leads hR _) fun _ => .after (upd_leads hR reported_resetBaseline) fun _ =>
    .after (upd_leads hR fun _ => rfl) fun _ => .ok

omit hR in
theorem alarmRaise_reports : Reports (alarmRaise x) s :=
  .ite (fun _ => .status _ s) fun _ => Serves.reports (.after (.upd fun _ _ => trivial) fun _ => .ok) s

theorem resync_serves (herror : Leads (fun _ => True) EndsServed (dropPendingCall x)) : Serves (resync x) :=
  .after (getLine_leads hR) fun _ => .after (.upd fun _ _ => trivial) fun _ => .after herror fun _ =>
    .after (lineSample_leads hR _) fun _ => .ok

omit hR in
theorem stageAni_reports (d : Digit) : Reports (stageAni d x) s :=
  .ite (fun _ => .status _ s) fun _ => Serves.reports (.after (.upd fun _ _ => trivial) fun _ => .ok) s

omit hR in
theorem stageDnis_reports (d : Digit) : Reports (stageDnis d x) s :=
  .ite (fun _ => .status _ s) fun _ => Serves.reports (.after (.upd fun _ _ => trivial) fun _ => .ok) s

end Rules

theorem dropPendingCall_served (env : Env) : Leads (fun _ => True) EndsServed (dropPendingCall (topCtx env)) := by
  have hR := topCtx_served env
  have herror : Leads (fun _ => True) EndsServed (notify (topCtx env) (.protocolError .alarmRaised)) :=
    .notify (.emit (fun _ _ => trivial) fun _ _ _ => reenter_served env _ _)
  exact .look fun _ => .onlyIf (.seq (upd_leads hR (reported_output rfl)) (.seq (errorIdle_leads hR)
    (.seq (upd_leads hR reported_resetBaseline) herror)))

/-- Every rule, at top level. -/
theorem ruleOf_reports (env : Env) (i : Instr) (s : State) : Reports (ruleOf i (topCtx env)) s := by
  have hR := topCtx_served env
  cases i with
  | line _ => exact lineOp_reports hR s
  | toneOn tone _ => exact toneOn_reports hR s tone
  | toneOff _ => exact toneOff_reports hR s
  | dtmfDigit digit _ => exact dtmfDigit_reports hR s digit
  | timerExpSeize _ => exact timerExp_reports hR s _ (expireSeize_leads hR)
  | timerExpSeizePersist _ => exact timerExp_reports hR s _ (expireSeizePersist_leads hR)
  | timerExpAnswer _ => exact timerExp_reports hR s _ (expireAnswer_leads hR)
  | timerExpAnswerDelay _ => exact timerExp_reports hR s _ (expireAnswerDelay_leads hR)
  | timerExpDoubleAnswer _ => exact timerExp_reports hR s _ (expireDoubleAnswer_leads hR)
  | timerExpSetCallDown _ => exact timerExp_reports hR s _ (endCall_leads hR)
  | timerExpMeteringPulse _ => exact timerExp_reports hR s _ (expireMeteringPulse_leads hR)
  | timerExpMfBackCycle _ => exact timerExp_reports hR s _ (expireMfBackCycle_leads hR)
  | timerExpMfBackResumeCycle _ => exact timerExp_reports hR s _ (expireMfBackResumeCycle_leads hR)
  | timerExpMfFwdSafety _ => exact timerExp_reports hR s _ (protocolError_leads hR _)
  | timerExpDtmfStartDial _ => exact timerExp_reports hR s _ (expireDtmfStartDial_leads hR)
  | timerExpCasPersistenceCheck _ => exact timerExp_reports hR s _ (expireCasPersistenceCheck_leads hR)
  | makeCall category restricted _ => exact makeCall_reports hR s category restricted
  | acceptCall mode _ => exact acceptCall_reports hR s mode
  | answerCall _ => exact guardedAnswer_reports hR s _
  | answerCallMode double _ => exact guardedAnswer_reports hR s double
  | disconnectCall cause _ => exact disconnectCall_reports hR s cause
  | ackCall _ => exact ackCall_reports hR s
  | setIdle _ => exact (setIdle_serves hR).reports s
  | setBlocked _ => exact (setBlocked_serves hR).reports s
  | alarm raised _ =>
    exact .ite (fun _ => alarmRaise_reports (x := topCtx env) s) fun _ => .ite
      (fun _ => (resync_serves hR (dropPendingCall_served env)).reports s) fun _ => .status _ s
  | stageClr _ => exact Serves.reports (.after (.upd fun _ _ => trivial) fun _ => .ok) s
  | stageAni digit _ => exact stageAni_reports (x := topCtx env) s digit
  | stageDnis digit _ => exact stageDnis_reports (x := topCtx env) s digit

/-- An operation only reports a STATUS, or ends in STATUS Ok or IoError. -/
theorem exec_reports (i : Instr) (s : State) :
    (∃ st, exec i s = .next (ended [] st s)) ∨ ∃ t, exec i s = .next t ∧ t.resp = [] ∧ EndsServed t := by
  cases hwf : i.wf
  · exact .inl ⟨_, exec_illFormed hwf s⟩
  · rw [exec_eq_runTop hwf]
    rcases ruleOf_reports (envOf i) i (startTrace s) with ⟨st, h⟩ | h
    · exact .inl ⟨st, runTop_status h⟩
    · rw [runTop_eq]
      exact .inr ⟨_, rfl, rfl, h⟩

/-- Settles O8. -/
theorem everyOperationEndsInStatus : Obligations.EveryOperationEndsInStatus := by
  have hexec : ∀ (i : Instr) (s : State), ∃ t acts st,
      exec i s = .next t ∧ t.out = acts ++ [Action.status st] ∧ t.resp = [] := by
    intro i s
    rcases exec_reports i s with ⟨st, h⟩ | ⟨t, h, hresp, acts, st, _, hout⟩
    · exact ⟨_, [], st, h, rfl, rfl⟩
    · exact ⟨t, acts, st, h, hout, hresp⟩
  refine ⟨hexec, fun s => ?_⟩
  unfold step react
  split
  · split
    · obtain ⟨t, _, _, h, _⟩ := hexec _ _
      exact ⟨t, h⟩
    · exact ⟨_, rfl⟩
  · exact ⟨s, rfl⟩

/-- Settles O19: STATUS Fail, Ignored and BadOp are not among the ends of an operation that was served. -/
theorem refusedOperationsChangeNothing : Obligations.RefusedOperationsChangeNothing := by
  intro i s t st h hlast hst
  rcases exec_reports i s with ⟨st', h'⟩ | ⟨t', h', _, acts, st', hst', hout⟩
  · cases h.symm.trans h'
    simp only [ended, List.nil_append, List.getLast?_singleton, Option.some.injEq, Action.status.injEq] at hlast
    rw [hlast]
  · cases h.symm.trans h'
    simp only [hout, List.getLast?_append, List.getLast?_singleton, Option.some_or, Option.some.injEq,
      Action.status.injEq] at hlast
    subst hlast
    revert hst hst'
    cases st' <;> simp

end Sys2Proof.Machine
end

section
/-! PROOFS. What an operation leaves alone when the application does not re-enter: the alarm flag and the staging buffers but
for their owners, and the count of protocol errors but for one (spec/60_exceptions.md sections 3 and 5). -/

namespace Sys2Proof.Machine

/-! ### The regime of an application that does not re-enter -/

/-- The application does not re-enter, and `φ` holds. -/
def Quietly (φ : State → Prop) (s : State) : Prop := NoReentry s ∧ φ s

theorem quiet_emit {x : Ctx} {φ ψ : State → Prop} {ev : Event} (htold : ∀ s, φ s → φ (told ev s)) :
    Leads (Quietly φ) ψ (emit x ev) :=
  .emit (fun s ⟨hq, h⟩ => ⟨hq.of_tail rfl, htold s h⟩) fun s ⟨hq, _⟩ hop => by
    rw [hq.head] at hop
    cases hop

/-- Without re-entry a regime need only bear an event of each kind and the STATUS that ends the operation. -/
theorem quiet_regime {x : Ctx} {φ ψ : State → Prop} (hframe : ∀ s t, reported t = reported s → φ s → φ t)
    (htold : ∀ ev, (∀ kind, ev ≠ .protocolError kind) → ∀ s, φ s → φ (told ev s))
    (hio : ∀ s, φ s → ψ (output (.status .ioError) s))
    (herror : ∀ kind s, φ s → ψ (output (.status .ok) (told (.protocolError kind) s))) :
    Regime x (Quietly φ) ψ where
  frame s t h hs := by
    have hresp : t.resp = s.resp := congrArg (fun p => p.2.2.2.1) h
    exact ⟨hs.1.of_resp hresp, hframe s t h hs.2⟩
  event ev hev := quiet_emit (htold ev hev)
  ioEnd s hs := hio s hs.2
  errorEnd kind s hs := by
    rw [notify_noReentry x _ hs.1.head]
    exact herror kind s hs.2

/-! ### Registers with owners -/

section Owners
variable {β : Type} {field : State → β} (hfield : ∀ s t, reported t = reported s → field t = field s)
  (htold : ∀ ev s, field (told ev s) = field s)
include hfield htold

/-- A register that every rule but its owners leaves alone. -/
theorem field_regime (x : Ctx) (v : β) : Regime x (Quietly fun s => field s = v) (fun s => field s = v) :=
  quiet_regime (fun s t h hs => (hfield s t h).trans hs) (fun ev _ s hs => (htold ev s).trans hs)
    (fun s hs => (hfield s _ (reported_output rfl s)).trans hs)
    fun _ s hs => ((hfield _ _ (reported_output rfl _)).trans (htold _ s)).trans hs

/-- An operation leaves the register alone, if its rule does in case it writes any register of `reported`. -/
theorem exec_leaves_field {i : Instr} {s t : State}
    (hends : ∀ u : State, field (dropResponses u) = field u) (hstart : ∀ u : State, field (startTrace u) = field u)
    (hwrites : writesReported i = true → ∀ v, Leads (Quietly fun s => field s = v) (fun s => field s = v)
      (ruleOf i (topCtx (envOf i))))
    (hq : NoReentry s) (h : exec i s = .next t) : field t = field s := by
  have hR := field_regime hfield htold (topCtx (envOf i)) (field s)
  have hbad : field (ended [] .badOp s) = field s :=
    calc field (dropResponses (output (.status .badOp) (startTrace s)))
        = field (output (.status .badOp) (startTrace s)) := hends _
      _ = field (startTrace s) := hfield _ _ (reported_output rfl _)
      _ = field s := hstart s
  exact exec_of_leads (Q := fun u => field u = field s) (ruleOf_leads hR i fun hw => hwrites hw _)
    ⟨hq.of_resp rfl, hstart s⟩ hbad (fun u hu => (hends u).trans hu.2) (fun u hu => (hends u).trans hu) h

end Owners

theorem freeze_stageAni (s : State) : (freeze s).stageAni = s.stageAni := by rw [freeze_eq]

theorem freeze_stageDnis (s : State) : (freeze s).stageDnis = s.stageDnis := by rw [freeze_eq]

/-- Only ALARM writes the alarm flag (R339). -/
theorem exec_alarm {i : Instr} {s t : State} (hi : ∀ raised env, i ≠ .alarm raised env) (hq : NoReentry s)
    (h : exec i s = .next t) : t.alarm = s.alarm := by
  have hfield : ∀ s t : State, reported t = reported s → t.alarm = s.alarm := fun _ _ h => congrArg (·.1) h
  refine exec_leaves_field (field := State.alarm) hfield (fun _ _ => rfl) (fun _ => rfl) (fun _ => rfl)
    (fun _ v => ?_) hq h
  have hR := field_regime (field := State.alarm) hfield (fun _ _ => rfl) (topCtx (envOf i)) v
  cases i with
  | makeCall category restricted _ => exact makeCall_leads hR (fun _ _ _ hs => hs) category restricted
  | alarm raised env => exact absurd rfl (hi raised env)
  | stageClr _ => exact stageClr_leads hR fun _ hs => hs
  | stageAni digit _ => exact stageAni_leads hR (fun _ _ hs => hs) digit
  | stageDnis digit _ => exact stageDnis_leads hR (fun _ _ hs => hs) digit
  | _ => contradiction

/-- MAKE_CALL, STAGE_CLR and STAGE_ANI write the staged ANI, and no other operation (R74). -/
theorem exec_stageAni {i : Instr} {s t : State} (hcall : ∀ c r env, i ≠ .makeCall c r env)
    (hclr : ∀ env, i ≠ .stageClr env) (hani : ∀ d env, i ≠ .stageAni d env) (hq : NoReentry s)
    (h : exec i s = .next t) : t.stageAni = s.stageAni := by
  have hfield : ∀ s t : State, reported t = reported s → t.stageAni = s.stageAni := fun _ _ h => congrArg (·.2.1) h
  refine exec_leaves_field (field := State.stageAni) hfield (fun _ _ => rfl) (fun _ => rfl) (fun _ => rfl)
    (fun _ v => ?_) hq h
  have hR := field_regime (field := State.stageAni) hfield (fun _ _ => rfl) (topCtx (envOf i)) v
  cases i with
  | makeCall c r env => exact absurd rfl (hcall c r env)
  | alarm raised _ =>
    exact .ite
      (fun _ => alarmRaise_leads hR fun s hs =>
        ⟨hs.1.of_resp (by rw [freeze_eq]), (freeze_stageAni s).trans hs.2⟩)
      fun _ => alarmClear_leads hR (fun _ hs => hs) (.notify (quiet_emit fun _ hs => hs))
  | stageClr env => exact absurd rfl (hclr env)
  | stageAni d env => exact absurd rfl (hani d env)
  | stageDnis digit _ => exact stageDnis_leads hR (fun _ _ hs => hs) digit
  | _ => contradiction

/-- MAKE_CALL, STAGE_CLR and STAGE_DNIS write the staged DNIS, and no other operation (R74). -/
theorem exec_stageDnis {i : Instr} {s t : State} (hcall : ∀ c r env, i ≠ .makeCall c r env)
    (hclr : ∀ env, i ≠ .stageClr env) (hdnis : ∀ d env, i ≠ .stageDnis d env) (hq : NoReentry s)
    (h : exec i s = .next t) : t.stageDnis = s.stageDnis := by
  have hfield : ∀ s t : State, reported t = reported s → t.stageDnis = s.stageDnis :=
    fun _ _ h => congrArg (·.2.2.1) h
  refine exec_leaves_field (field := State.stageDnis) hfield (fun _ _ => rfl) (fun _ => rfl) (fun _ => rfl)
    (fun _ v => ?_) hq h
  have hR := field_regime (field := State.stageDnis) hfield (fun _ _ => rfl) (topCtx (envOf i)) v
  cases i with
  | makeCall c r env => exact absurd rfl (hcall c r env)
  | alarm raised _ =>
    exact .ite
      (fun _ => alarmRaise_leads hR fun s hs =>
        ⟨hs.1.of_resp (by rw [freeze_eq]), (freeze_stageDnis s).trans hs.2⟩)
      fun _ => alarmClear_leads hR (fun _ hs => hs) (.notify (quiet_emit fun _ hs => hs))
  | stageClr env => exact absurd rfl (hclr env)
  | stageAni digit _ => exact stageAni_leads hR (fun _ _ hs => hs) digit
  | stageDnis d env => exact absurd rfl (hdnis d env)
  | _ => contradiction

/-- Settles O21. -/
theorem alarmAndStagingHaveOwners : Obligations.AlarmAndStagingHaveOwners := fun _ _ _ hq h =>
  ⟨fun hi => exec_alarm hi hq h, fun hcall hclr hani => exec_stageAni hcall hclr hani hq h,
    fun hcall hclr hdnis => exec_stageDnis hcall hclr hdnis hq h⟩

/-! ### Protocol errors -/

/-- Whether an event reports a protocol error (R107). -/
def isProtocolError : Event → Bool
  | .protocolError _ => true
  | _ => false

/-- The protocol errors in a trace. -/
def errorCount (acts : List Action) : Nat := ((eventsOf acts).filter isProtocolError).length

theorem errorCount_append (as bs : List Action) : errorCount (as ++ bs) = errorCount as + errorCount bs := by
  simp [errorCount]

theorem errorCount_evt {ev : Event} (h : ∀ kind, ev ≠ .protocolError kind) : errorCount [.evt ev] = 0 := by
  cases ev with
  | protocolError kind => exact absurd rfl (h kind)
  | _ => rfl

/-- A rule raises no protocol error while it goes on, and at most one where it ends the operation. -/
theorem errorCount_regime (x : Ctx) (n : Nat) :
    Regime x (Quietly fun s => errorCount s.out = n) (fun s => errorCount s.out ≤ n + 1) := by
  refine quiet_regime (fun s t h hs => ?frame) (fun ev hev s hs => ?told) (fun s hs => ?io) fun kind s hs => ?error
  case frame =>
    have hev : eventsOf t.out = eventsOf s.out := congrArg (·.2.2.2.2) h
    rw [← hs, errorCount, errorCount, hev]
  case told =>
    show errorCount (s.out ++ [.evt ev]) = n
    rw [errorCount_append, errorCount_evt hev, hs]
    rfl
  case io =>
    show errorCount (s.out ++ [.status .ioError]) ≤ n + 1
    rw [errorCount_append, hs]
    exact Nat.le_succ n
  case error =>
    show errorCount (s.out ++ [.evt (.protocolError kind)] ++ [.status .ok]) ≤ n + 1
    rw [errorCount_append, errorCount_append, hs]
    exact le_refl (n + 1)

theorem errorCount_freeze (s : State) : errorCount (freeze s).out = errorCount s.out := by
  have h : errorCount (if s.mfWriteTone = 0 then [] else [Action.tone 0]) = 0 := by split_ifs <;> rfl
  rw [freeze_eq]
  show errorCount (s.out ++ cancelsOf allTimers s ++ (if s.mfWriteTone = 0 then [] else [Action.tone 0])) = _
  rw [errorCount_append, errorCount_append, h]
  simp [errorCount]

theorem exec_errorCount {i : Instr} {s t : State} (hq : NoReentry s) (hi : ∀ env, i ≠ .alarm false env)
    (h : exec i s = .next t) : errorCount t.out ≤ 1 := by
  have hR := errorCount_regime (topCtx (envOf i)) 0
  refine exec_of_leads (Q := fun u => errorCount u.out ≤ 1) (ruleOf_leads hR i fun _ => ?_) ⟨hq.of_resp rfl, rfl⟩
    (Nat.zero_le 1) (fun u hu => hu.2.trans_le (Nat.zero_le 1)) (fun u hu => hu) h
  cases i with
  | makeCall category restricted _ => exact makeCall_leads hR (fun _ _ _ hs => hs) category restricted
  | alarm raised env =>
    cases raised with
    | false => exact absurd rfl (hi env)
    | true =>
      exact alarmRaise_leads hR fun s hs => ⟨hs.1.of_resp (by rw [freeze_eq]), (errorCount_freeze s).trans hs.2⟩
  | stageClr _ => exact stageClr_leads hR fun _ hs => hs
  | stageAni digit _ => exact stageAni_leads hR (fun _ _ hs => hs) digit
  | stageDnis digit _ => exact stageDnis_leads hR (fun _ _ hs => hs) digit
  | _ => contradiction

/-- Settles O20. -/
theorem atMostOneProtocolError : Obligations.AtMostOneProtocolError := fun _ _ _ hq hi h => exec_errorCount hq hi h

end Sys2Proof.Machine
end

section
/-! PROOFS. The gates of the alarm (spec/60_exceptions.md section 3, spec/43_call_control.md R274), and R54 (d): where no
response nests ALARM 1, no timer runs and nothing is pending during an alarm. -/

namespace Sys2Proof.Machine

/-! ### The gates -/

/-- A rule that begins with a test. -/
theorem see_pos {α : Type} {c : State → Prop} [DecidablePred c] {m n : State → Act α} {s : State} (h : c s) :
    (see >>= fun s => if c s then m s else n s) s = m s s := congrFun (if_pos h) s

theorem see_neg {α : Type} {c : State → Prop} [DecidablePred c] {m n : State → Act α} {s : State} (h : ¬ c s) :
    (see >>= fun s => if c s then m s else n s) s = n s s := congrFun (if_neg h) s

theorem timerExp_alarm (t : Timer) (effect : Ctx → Act Unit) (x : Ctx) {s : State} (h : s.alarm = true) :
    timerExp t effect x s = status .ignored s := see_pos h

/-- In alarm an event operation is dropped (R339). -/
theorem ruleOf_event_alarm {i : Instr} (hi : isCallControl i = false) (x : Ctx) {s : State} (h : s.alarm = true) :
    ruleOf i x s = status .ignored s := by
  cases i with
  | line _ | toneOn _ _ | toneOff _ | dtmfDigit _ _ => exact see_pos h
  | timerExpSeize _ | timerExpSeizePersist _ | timerExpAnswer _ | timerExpAnswerDelay _ | timerExpDoubleAnswer _
  | timerExpSetCallDown _ | timerExpMeteringPulse _ | timerExpMfBackCycle _ | timerExpMfBackResumeCycle _
  | timerExpMfFwdSafety _ | timerExpDtmfStartDial _ | timerExpCasPersistenceCheck _ => exact timerExp_alarm _ _ x h
  | _ => cases hi

theorem guardedAnswer_alarm (double : Bool) (x : Ctx) {s : State} (h : s.alarm = true) :
    guardedAnswer double x s = status .fail s :=
  see_neg (c := fun s => answerGuard s = true) (by simp [answerGuard, h])

/-- In alarm a guarded call-control operation fails (R274). -/
theorem ruleOf_guarded_alarm {i : Instr} (hi : alarmFails i = true) (x : Ctx) {s : State} (h : s.alarm = true) :
    ruleOf i x s = status .fail s := by
  cases i with
  | makeCall category _ _ => exact see_neg (c := fun s => makeCallGuard category s = true) (by simp [makeCallGuard, h])
  | acceptCall _ _ => exact see_pos (c := fun s => acceptGuard s = false) (by simp [acceptGuard, h])
  | answerCall _ => exact guardedAnswer_alarm _ x h
  | answerCallMode _ _ => exact guardedAnswer_alarm _ x h
  | disconnectCall _ _ => exact see_pos (c := fun s => s.alarm = true ∨ s.callState = .idle) (.inl h)
  | ackCall _ => exact see_neg (c := fun s => ackGuard s = true) (by simp [ackGuard, h])
  | _ => cases hi

theorem timerExp_notArmed {t : Timer} (effect : Ctx → Act Unit) (x : Ctx) {s : State} (ha : s.alarm = false)
    (h : isArmed t s = false) : timerExp t effect x s = status .ignored s := by
  unfold timerExp
  rw [see_bind, if_neg (by simp [ha]), if_pos h]

/-- An expiry of a timer that is not live is dropped (R244). -/
theorem ruleOf_notArmed {i : Instr} {t : Timer} (hi : expiredTimer i = some t) (x : Ctx) {s : State}
    (ha : s.alarm = false) (h : isArmed t s = false) : ruleOf i x s = status .ignored s := by
  cases i with
  | timerExpSeize _ | timerExpSeizePersist _ | timerExpAnswer _ | timerExpAnswerDelay _ | timerExpDoubleAnswer _
  | timerExpSetCallDown _ | timerExpMeteringPulse _ | timerExpMfBackCycle _ | timerExpMfBackResumeCycle _
  | timerExpMfFwdSafety _ | timerExpDtmfStartDial _ | timerExpCasPersistenceCheck _ =>
    cases hi
    exact timerExp_notArmed _ x ha h
  | _ => cases hi

/-- An operation whose rule only reports a STATUS. -/
theorem exec_of_status {i : Instr} (hwf : i.wf = true) {st : Status} {s : State}
    (h : ruleOf i (topCtx (envOf i)) (startTrace s) = status st (startTrace s)) :
    exec i s = .next (ended [] st s) := by
  rw [exec_eq_runTop hwf, runTop_status h]

theorem expiredTimer_wf {i : Instr} {t : Timer} (h : expiredTimer i = some t) : i.wf = true := by
  cases i with
  | toneOn _ _ => cases h
  | _ => rfl

theorem toneWellFormed_of_ne {t : Tone} (h : t ≠ 0) : toneWellFormed t = true := by simpa [toneWellFormed] using h

theorem toneOn_notLive (t : Tone) (x : Ctx) {s : State} (ha : s.alarm = false) (h : s.mfLive = false) :
    toneOn t x s = status .ignored s := by
  unfold toneOn
  rw [see_bind, if_neg (by simp [ha]), if_pos h]

theorem toneOn_same {t : Tone} (x : Ctx) {s : State} (ha : s.alarm = false) (hl : s.mfLive = true)
    (h : s.mfReadTone = t) : toneOn t x s = status .ok s := by
  unfold toneOn
  rw [see_bind, if_neg (by simp [ha]), if_neg (by simp [hl]), if_pos h]

theorem toneOff_notLive (x : Ctx) {s : State} (ha : s.alarm = false) (h : s.mfLive = false) :
    toneOff x s = status .ignored s := by
  unfold toneOff
  rw [see_bind, if_neg (by simp [ha]), if_pos h]

theorem toneOff_silent (x : Ctx) {s : State} (ha : s.alarm = false) (hl : s.mfLive = true) (h : s.mfReadTone = 0) :
    toneOff x s = status .ok s := by
  unfold toneOff
  rw [see_bind, if_neg (by simp [ha]), if_neg (by simp [hl]), if_pos h]

theorem dtmfDigit_notLive (d : Digit) (x : Ctx) {s : State} (ha : s.alarm = false) (h : s.dtmfRxLive = false) :
    dtmfDigit d x s = status .ignored s := by
  unfold dtmfDigit
  rw [see_bind, if_neg (by simp [ha]), if_pos h]

/-- Settles O22: each gate answers before anything is done. -/
theorem eventsAreGated : Obligations.EventsAreGated := by
  intro env s
  refine ⟨fun ha i hwf => ⟨fun hi => exec_of_status hwf (ruleOf_event_alarm hi _ ha),
    fun hi => exec_of_status hwf (ruleOf_guarded_alarm hi _ ha)⟩, fun ha => ⟨fun i tm hi h => ?timer, fun hl => ⟨?on, ?off⟩,
      fun hl d => ?digit, fun hl => ⟨?sameTone, ?noTone⟩⟩⟩
  case timer => exact exec_of_status (expiredTimer_wf hi) (ruleOf_notArmed hi _ ha h)
  case on =>
    exact fun t ht => exec_of_status (i := .toneOn t env) (toneWellFormed_of_ne ht) (toneOn_notLive t _ ha hl)
  case off => exact exec_of_status (i := .toneOff env) rfl (toneOff_notLive _ ha hl)
  case digit => exact exec_of_status (i := .dtmfDigit d env) rfl (dtmfDigit_notLive d _ ha hl)
  case sameTone =>
    exact fun t ht hr => exec_of_status (i := .toneOn t env) (toneWellFormed_of_ne ht) (toneOn_same _ ha hl hr)
  case noTone => exact fun hr => exec_of_status (i := .toneOff env) rfl (toneOff_silent _ ha hl hr)

/-! ### Responses that do not nest ALARM 1 -/

/-- The word is ALARM 1 (R295). -/
def raisesAlarm (w : OpBits) : Bool :=
  match decode w with
  | .instr (.alarm raised _) => raised
  | _ => false

theorem nestsAlarm_eq (r : RespBits) : nestsAlarm r = (respHasOp r && raisesAlarm (respOpWord r)) := rfl

/-- No response word left nests ALARM 1. -/
def NoNestedAlarm (s : State) : Prop := ∀ r ∈ s.resp, nestsAlarm r = false

theorem NoNestedAlarm.tail {s t : State} (h : NoNestedAlarm s) (e : t.resp = s.resp.tail) : NoNestedAlarm t :=
  fun r hr => h r (List.mem_of_mem_tail (e ▸ hr))

/-- The word that runs inside an event is not ALARM 1. -/
theorem NoNestedAlarm.head {s : State} (h : NoNestedAlarm s) (hop : respHasOp (s.resp.headD 0) = true) :
    raisesAlarm (respOpWord (s.resp.headD 0)) = false := by
  cases hr : s.resp with
  | nil =>
    rw [hr] at hop
    cases hop
  | cons r rs =>
    rw [hr] at hop
    have hn := h r (by simp [hr])
    rw [nestsAlarm_eq] at hn
    simpa [show respHasOp r = true from hop] using hn

/-! ### Without an alarm none is raised -/

/-- No alarm is on, and none will be raised. -/
def Unalarmed (s : State) : Prop := s.alarm = false ∧ NoNestedAlarm s

/-- R54 (d), and no response nests ALARM 1. -/
def Hushed (s : State) : Prop := quietDuringAlarm s = true ∧ NoNestedAlarm s

theorem Unalarmed.hushed {s : State} (h : Unalarmed s) : Hushed s := ⟨by simp [quietDuringAlarm, h.1], h.2⟩

/-- What the rules need of the words that may be nested. -/
def NestedHush (x : Ctx) : Prop := ∀ w, raisesAlarm w = false →
  Leads Unalarmed Unalarmed (x.reenter w) ∧ Leads Hushed Hushed (x.reenter w)

theorem emit_unalarmed {x : Ctx} (hx : NestedHush x) (ev : Event) : Leads Unalarmed Unalarmed (emit x ev) :=
  .emit (fun _ ⟨ha, hn⟩ => ⟨ha, hn.tail rfl⟩) fun _ ⟨_, hn⟩ hop => (hx _ (hn.head hop)).1

theorem emit_hushed {x : Ctx} (hx : NestedHush x) (ev : Event) : Leads Hushed Hushed (emit x ev) :=
  .emit (fun _ ⟨ha, hn⟩ => ⟨ha, hn.tail rfl⟩) fun _ ⟨_, hn⟩ hop => (hx _ (hn.head hop)).2

theorem unalarmed_regime {x : Ctx} (hx : NestedHush x) : Regime x Unalarmed Unalarmed where
  frame s t h hs := by
    have halarm : t.alarm = s.alarm := congrArg (·.1) h
    have hresp : t.resp = s.resp := congrArg (·.2.2.2.1) h
    exact ⟨halarm.trans hs.1, fun r hr => hs.2 r (hresp ▸ hr)⟩
  event ev _ := emit_unalarmed hx ev
  ioEnd _ hs := hs
  errorEnd kind := (emit_unalarmed hx _).notify.closes fun _ hs => hs

/-- From a state without an alarm every operation but ALARM 1 leads to one. -/
theorem ruleOf_unalarmed {x : Ctx} (hx : NestedHush x) {i : Instr} (hi : ∀ env, i ≠ .alarm true env) :
    Leads Unalarmed Unalarmed (ruleOf i x) := by
  have hR := unalarmed_regime hx
  refine ruleOf_leads hR i fun _ => ?_
  cases i with
  | makeCall category restricted _ => exact makeCall_leads hR (fun _ _ _ hs => hs) category restricted
  | alarm raised env =>
    cases raised with
    | true => exact absurd rfl (hi env)
    | false => exact alarmClear_leads hR (fun _ hs => ⟨rfl, hs.2⟩) (emit_unalarmed hx _).notify
  | stageClr _ => exact stageClr_leads hR fun _ hs => hs
  | stageAni digit _ => exact stageAni_leads hR (fun _ _ hs => hs) digit
  | stageDnis digit _ => exact stageDnis_leads hR (fun _ _ hs => hs) digit
  | _ => contradiction

theorem Leads.hushed {α : Type} {m : Act α} {s : State} (h : Leads Unalarmed Unalarmed m) (hs : Unalarmed s) :
    match m s with
    | .ok _ s' => Hushed s'
    | .error _ s' => Hushed s' := by
  have hm := h s hs
  cases heq : m s with
  | ok a s' => exact Unalarmed.hushed (by simpa [heq] using hm)
  | error e s' => exact Unalarmed.hushed (by simpa [heq] using hm)

/-! ### In alarm nothing starts -/

theorem freeze_hushed {s : State} (h : NoNestedAlarm s) : Hushed (freeze s) := by
  rw [freeze_eq]
  exact ⟨by simp [quietDuringAlarm], h⟩

theorem resetBaseline_hushed {s : State} (h : NoNestedAlarm s) : Hushed (resetBaseline s) := by
  rw [resetBaseline_eq]
  exact ⟨by simp [quietDuringAlarm, baselineOf], h⟩

theorem ioError_hushed {α : Type} {x : Ctx} (hx : NestedHush x) (what : OsError) :
    Leads Hushed Hushed (ioError x what : Act α) :=
  ((emit_hushed hx _).notify.closes fun _ hs => hs).finish

theorem txSignal_hushed {x : Ctx} (hx : NestedHush x) (sig : Signal) : Leads Hushed Hushed (txSignal x sig) :=
  .ite (fun _ => ioError_hushed hx _) fun _ => .upd fun _ hs => hs

theorem resetBaseline_leads_hushed : Leads Hushed Hushed (upd resetBaseline) :=
  .upd fun _ hs => resetBaseline_hushed hs.2

/-- ALARM 0 with the line readable: the flag is cleared before anything else is done (R297). -/
theorem resync_hushed {x : Ctx} (hx : NestedHush x) : Leads Hushed Hushed (resync x) := by
  have hR := unalarmed_regime hx
  have hpath : Leads Unalarmed Unalarmed (dropPendingCall x) :=
    .look fun _ => .onlyIf (.seq (upd_leads hR (reported_output rfl)) (.seq (errorIdle_leads hR)
      (.seq (upd_leads hR reported_resetBaseline) (emit_unalarmed hx _).notify)))
  have hrest : ∀ raw, Leads Unalarmed Unalarmed (do dropPendingCall x; lineSample x raw; status .ok) := fun raw =>
    .seq hpath (.seq (lineSample_leads hR raw) (status_leads hR _))
  exact .bind (.ite (fun _ => ioError_hushed hx _) fun _ => .pure _) fun raw s hs =>
    (hrest raw).hushed (s := { s with alarm := false, rxValid := false }) ⟨rfl, hs.2⟩

theorem setIdle_hushed {x : Ctx} (hx : NestedHush x) : Leads Hushed Hushed (setIdle x) :=
  .seq (txSignal_hushed hx _) (.seq resetBaseline_leads_hushed (.upd fun _ h => h))

theorem setBlocked_hushed {x : Ctx} (hx : NestedHush x) : Leads Hushed Hushed (setBlocked x) :=
  .seq (txSignal_hushed hx _) (.seq resetBaseline_leads_hushed (.seq (.upd fun _ h => h) (.upd fun _ h => h)))

theorem alarmRaise_hushed (x : Ctx) : Leads Hushed Hushed (alarmRaise x) :=
  .look fun _ => .ite (fun _ => .upd fun _ h => h) fun _ =>
    .seq (.upd fun _ h => freeze_hushed h.2) (.upd fun _ h => h)

theorem alarmClear_hushed {x : Ctx} (hx : NestedHush x) : Leads Hushed Hushed (alarmClear x) :=
  .look fun _ => .ite (fun _ => resync_hushed hx) fun _ => .upd fun _ h => h

theorem stageAni_hushed (x : Ctx) (d : Digit) : Leads Hushed Hushed (stageAni d x) :=
  .look fun _ => .ite (fun _ => .upd fun _ h => h) fun _ => .seq (.upd fun _ h => h) (.upd fun _ h => h)

theorem stageDnis_hushed (x : Ctx) (d : Digit) : Leads Hushed Hushed (stageDnis d x) :=
  .look fun _ => .ite (fun _ => .upd fun _ h => h) fun _ => .seq (.upd fun _ h => h) (.upd fun _ h => h)

/-- From a state of R54 (d) every operation but ALARM 1 nested leads to one. -/
theorem ruleOf_hushed {x : Ctx} (hx : NestedHush x) (i : Instr) : Leads Hushed Hushed (ruleOf i x) := by
  intro s hs
  by_cases ha : s.alarm = true
  · by_cases hev : isCallControl i = false
    · rw [ruleOf_event_alarm hev x ha]
      exact hs
    by_cases hfail : alarmFails i = true
    · rw [ruleOf_guarded_alarm hfail x ha]
      exact hs
    cases i with
    | setIdle _ => exact setIdle_hushed hx s hs
    | setBlocked _ => exact setBlocked_hushed hx s hs
    | alarm raised _ =>
      cases raised with
      | true => exact alarmRaise_hushed x s hs
      | false => exact alarmClear_hushed hx s hs
    | stageClr _ => exact hs
    | stageAni d _ => exact stageAni_hushed x d s hs
    | stageDnis d _ => exact stageDnis_hushed x d s hs
    | _ => simp [isCallControl, alarmFails] at hev hfail
  · have hu : Unalarmed s := ⟨by simpa using ha, hs.2⟩
    by_cases hi : ∃ env, i = .alarm true env
    · obtain ⟨env, rfl⟩ := hi
      exact alarmRaise_hushed x s hs
    · exact (ruleOf_unalarmed hx fun env e => hi ⟨env, e⟩).hushed hu

theorem raisesAlarm_of_decode {w : OpBits} {i : Instr} (hw : raisesAlarm w = false) (hd : decode w = .instr i)
    (env : Env) : i ≠ .alarm true env := by
  rintro rfl
  simp [raisesAlarm, hd] at hw

/-- Nested words, at every level. -/
theorem reenter_hushed (env : Env) (n : Nat) : NestedHush { env := env, reenter := reenter env n } := by
  induction n with
  | zero => exact fun _ _ => ⟨.pure _, .pure _⟩
  | succ n ih =>
    intro w hw
    show Leads _ _ (nestedWord _ w) ∧ Leads _ _ (nestedWord _ w)
    unfold nestedWord
    split
    next i hd =>
      rw [nestedOperation_eq]
      exact ⟨.ite (fun _ => ruleOf_unalarmed ih (raisesAlarm_of_decode hw hd)) fun _ => .pure _,
        .ite (fun _ => ruleOf_hushed ih i) fun _ => .pure _⟩
    next => exact ⟨.pure _, .pure _⟩

theorem topCtx_hushed (env : Env) : NestedHush (topCtx env) := reenter_hushed env _

theorem exec_hushed {i : Instr} {s t : State} (hq : quietDuringAlarm s = true) (hn : NoNestedAlarm s)
    (h : exec i s = .next t) : quietDuringAlarm t = true :=
  exec_of_leads (P := Hushed) (E := Hushed) (Q := fun u => quietDuringAlarm u = true)
    (ruleOf_hushed (topCtx_hushed _) i) ⟨hq, hn⟩ hq (fun _ hu => hu.1) (fun _ hu => hu.1) h

/-- Settles O17: from a state of R54 (d), with no ALARM 1 nested, each operation leads to one. -/
theorem alarmSilencesTimers : Obligations.AlarmSilencesTimers := by
  intro s t hq hn h
  unfold step fetch at h
  cases hin : s.input with
  | nil =>
    rw [hin] at h
    cases h
    exact hq
  | cons d rest =>
    rw [hin] at h hn
    have h' : react d.word { s with input := rest, resp := d.responses } = .next t := h
    unfold react at h'
    split at h'
    · exact exec_hushed (s := { s with input := rest, resp := d.responses }) hq (hn d rfl) h'
    · cases h'
      exact hq

end Sys2Proof.Machine
end

section
/-! PROOFS. The coupled state vector (spec/10_state.md section 7, spec/44_lifecycle_overlay.md R313): what each change of the
vector keeps. `Fit` is the coupling together with those of the other invariants that a claim asks for. -/

namespace Sys2Proof.Machine

/-! ### The invariants together -/

/-- The coupling of the state vector, and of the other invariants those that are asked for: no stray timer (R54 (c)) if `A`,
silence of a released engine (R54 (b)) if `B`, the rows of R313 with the answer delay if `C`. -/
structure Fit (A B C : Prop) (s : State) : Prop where
  coupled : vectorCoupled s = true
  stray : A → noStrayTimer s = true
  silent : B → silentWhenReleased s = true
  listed : C → vectorListed s = true
  delay : C → answerDelayFits s = true

/-- What the invariants read but for the timers. -/
def vectorOf (s : State) : CasState × MfState × MfGroup × CallState × Direction × Bool × Tone :=
  (s.casState, s.mfState, s.mfGroup, s.callState, s.direction, s.mfLive, s.mfWriteTone)

theorem vectorCoupled_congr {s t : State} (h : vectorOf t = vectorOf s) : vectorCoupled t = vectorCoupled s := by
  simp only [vectorOf, Prod.mk.injEq] at h
  simp only [vectorCoupled, dialingFits, exchangeFits, h]

theorem silentWhenReleased_congr {s t : State} (h : vectorOf t = vectorOf s) :
    silentWhenReleased t = silentWhenReleased s := by
  simp only [vectorOf, Prod.mk.injEq] at h
  simp only [silentWhenReleased, h]

theorem inRow_congr {s t : State} (h : vectorOf t = vectorOf s) (r : VectorRow) : inRow t r = inRow s r := by
  simp only [vectorOf, Prod.mk.injEq] at h
  simp only [inRow, h]

theorem vectorListed_congr {s t : State} (h : vectorOf t = vectorOf s) : vectorListed t = vectorListed s := by
  have hrow : inRow t = inRow s := funext fun r => inRow_congr h r
  simp only [vectorListed, hrow]

section Timers
variable {A B C : Prop} {s t : State}

/-- A change of the timers alone: none is started with no call, nor the answer delay. -/
theorem Fit.of_timers (h : Fit A B C s) (hv : vectorOf t = vectorOf s)
    (hstray : A → noStrayTimer s = true → noStrayTimer t = true)
    (hdelay : isArmed .answerDelay t = true → isArmed .answerDelay s = true) : Fit A B C t where
  coupled := by rw [vectorCoupled_congr hv]; exact h.coupled
  stray a := hstray a (h.stray a)
  silent b := by rw [silentWhenReleased_congr hv]; exact h.silent b
  listed c := by rw [vectorListed_congr hv]; exact h.listed c
  delay c := by
    have hs := h.delay c
    simp only [vectorOf, Prod.mk.injEq] at hv
    unfold answerDelayFits at hs ⊢
    cases ht : isArmed .answerDelay t
    · rfl
    · rw [hdelay ht] at hs
      simpa [hv] using hs

/-- A change outside what the invariants read. -/
theorem Fit.frame (h : Fit A B C s) (hv : vectorOf t = vectorOf s) (ha : t.armed = s.armed) : Fit A B C t := by
  have hdir : t.direction = s.direction := congrArg (·.2.2.2.2.1) hv
  refine h.of_timers hv (fun _ hs => ?_) fun hs => ?_
  · rwa [noStrayTimer, ha, hdir]
  · rwa [isArmed, ← ha]

/-- With fewer timers armed no timer has become a stray one. -/
theorem noStrayTimer_without {u : Timer} (hdir : t.direction = s.direction)
    (ha : t.armed = s.armed &&& ~~~timerBit u) (h : noStrayTimer s = true) : noStrayTimer t = true := by
  unfold noStrayTimer at h ⊢
  rw [hdir, ha]
  rcases (Bool.or_eq_true _ _).mp h with h | h
  · simp [h]
  · have h0 : s.armed &&& ~~~timerBit .casPersistenceCheck = 0 := by simpa using h
    have e : s.armed &&& ~~~timerBit u &&& ~~~timerBit .casPersistenceCheck = 0 := by
      rw [BitVec.and_assoc, BitVec.and_comm (~~~timerBit u), ← BitVec.and_assoc, h0]
      exact BitVec.zero_and
    simp [e]

theorem vectorOf_cancel (u : Timer) (s : State) : vectorOf (cancel u s) = vectorOf s := by simp [vectorOf]

theorem vectorOf_arm (u : Timer) (s : State) : vectorOf (arm u s) = vectorOf s := by simp [vectorOf]

theorem Fit.disarm (h : Fit A B C s) (u : Timer) : Fit A B C (Machine.disarm u s) :=
  h.of_timers rfl (fun _ => noStrayTimer_without rfl rfl) fun hd => by
    rw [isArmed_disarm, Bool.and_eq_true] at hd
    exact hd.1

theorem Fit.cancel (h : Fit A B C s) (u : Timer) : Fit A B C (Machine.cancel u s) :=
  h.of_timers (vectorOf_cancel u s) (fun _ => noStrayTimer_without (u := u) (by simp) (by rw [cancel_eq]; rfl)) fun hd => by
    rw [isArmed_cancel, Bool.and_eq_true] at hd
    exact hd.1

theorem Fit.cancelEach (h : Fit A B C s) (us : List Timer) : Fit A B C (Machine.cancelEach us s) := by
  induction us generalizing s with
  | nil => exact h
  | cons u us ih => exact ih (h.cancel u)

/-- The persistence check may be armed at any time (R54 (c)). -/
theorem Fit.armCheck (h : Fit A B C s) : Fit A B C (arm .casPersistenceCheck s) := by
  refine h.of_timers (vectorOf_arm _ s) (fun _ hs => ?_) fun hd => by simpa [isArmed_arm] using hd
  have e : (s.armed ||| timerBit .casPersistenceCheck) &&& ~~~timerBit .casPersistenceCheck =
      s.armed &&& ~~~timerBit .casPersistenceCheck := by
    apply BitVec.eq_of_getLsbD_eq
    intro i hi
    simp only [BitVec.getLsbD_and, BitVec.getLsbD_or, BitVec.getLsbD_not]
    cases s.armed.getLsbD i <;> cases (timerBit .casPersistenceCheck).getLsbD i <;> simp
  rw [noStrayTimer, arm_direction, arm_eq, e]
  exact hs

/-- With no call only the persistence check can be armed (R54 (c)). -/
theorem noStray_armed {u : Timer} (h : noStrayTimer s = true) (hd : s.direction = .stopped) (hu : isArmed u s = true) :
    u = .casPersistenceCheck := by
  have h0 : s.armed &&& ~~~timerBit .casPersistenceCheck = 0 := by simpa [noStrayTimer, hd] using h
  have hbit := congrArg (·.getLsbD u.index) h0
  simp only [BitVec.getLsbD_and, BitVec.getLsbD_not, timerBit_getLsbD] at hbit
  rw [isArmed] at hu
  simpa [hu, timer_index_lt u] using hbit

/-- Another timer is armed during a call. -/
theorem Fit.arm_of (h : Fit A B C s) (hdir : A → s.direction ≠ .stopped) {u : Timer} (hu : u ≠ .answerDelay) :
    Fit A B C (Machine.arm u s) := by
  refine h.of_timers (vectorOf_arm u s) (fun a _ => ?_) fun hd => ?_
  · simp [noStrayTimer, hdir a]
  · simpa [isArmed_arm, hu.symm] using hd

theorem Fit.arm (h : Fit A B C s) (hdir : s.direction ≠ .stopped) {u : Timer} (hu : u ≠ .answerDelay) :
    Fit A B C (Machine.arm u s) := h.arm_of (fun _ => hdir) hu

/-- The answer delay is armed after the accept (R262). -/
theorem Fit.armDelay (h : Fit A B C s) (hdir : s.direction ≠ .stopped)
    (hfits : C → s.casState = .seizeAckTxd ∧ s.callState = .offered ∧ s.mfState = .off) :
    Fit A B C (Machine.arm .answerDelay s) where
  coupled := by rw [vectorCoupled_congr (vectorOf_arm _ s)]; exact h.coupled
  stray _ := by simp [noStrayTimer, hdir]
  silent b := by rw [silentWhenReleased_congr (vectorOf_arm _ s)]; exact h.silent b
  listed c := by rw [vectorListed_congr (vectorOf_arm _ s)]; exact h.listed c
  delay c := by
    obtain ⟨hcas, hcall, hmf⟩ := hfits c
    simp [answerDelayFits, hcas, hcall, hmf]

end Timers

/-! ### What the coupling says -/

/-- R54 (b), spelled out. -/
theorem silent_iff (s : State) : silentWhenReleased s = true ↔
    (s.mfLive = true ∨ s.mfWriteTone = 0) ∧ (toneState s.mfState = true → s.mfLive = true) ∧
      (s.casState = .seizeRxd → s.mfLive = true ∧ s.mfState = .off ∧ s.mfGroup = .backInit) ∧
      (s.mfGroup = .dtmfBackInit → toneState s.mfState = false) := by
  simp only [silentWhenReleased, Bool.and_eq_true, Bool.or_eq_true, decide_eq_true_eq, Bool.not_eq_true', beq_iff_eq]
  grind

/-- The coupling, spelled out. -/
theorem coupled_iff (s : State) : vectorCoupled s = true ↔ sideOf s.casState = s.direction ∧
    callStateFits s.direction s.callState = true ∧
    groupFits s.direction s.mfGroup = true ∧ mfStateFits s.direction s.mfState = true ∧
    (s.callState = .answered → answeredCas s.casState = true ∧ answeredMf s.mfState = true) ∧
    dialingFits s = true ∧ exchangeFits s = true := by
  simp only [vectorCoupled, Bool.and_eq_true, Bool.or_eq_true, decide_eq_true_eq]
  grind

section Coupled
variable {s : State} (h : vectorCoupled s = true)
include h

theorem coupled_parts : sideOf s.casState = s.direction ∧ callStateFits s.direction s.callState = true ∧
    groupFits s.direction s.mfGroup = true ∧ mfStateFits s.direction s.mfState = true ∧
    (s.callState = .answered → answeredCas s.casState = true ∧ answeredMf s.mfState = true) ∧
    dialingFits s = true ∧ exchangeFits s = true  := (coupled_iff s).mp h

theorem coupled_side : sideOf s.casState = s.direction := (coupled_parts h).1

theorem coupled_stopped_iff : s.direction = .stopped ↔ s.callState = .idle := by
  obtain ⟨hside, hcall, _⟩ := coupled_parts h
  cases hd : s.direction <;> rw [hd] at hcall hside <;> simp [callStateFits] at hcall ⊢ <;> grind

end Coupled

/-- The coupling on the backward side. -/
theorem coupled_backward {s : State} (hd : s.direction = .backward) : vectorCoupled s = true ↔
    sideOf s.casState = .backward ∧ s.callState ∈ [CallState.collecting, .offered, .accepted, .answered, .disconnected] ∧
    s.mfGroup ∈ [MfGroup.backInit, .ga, .gb, .gc, .dtmfBackInit] ∧
    s.mfState ∈ [MfState.off, .seizeAckTxd, .categoryRqTxd, .dnisRqTxd, .aniRqTxd, .chgGiiTxd, .acceptedTxd,
      .disconnectTxd, .detectingDtmf] ∧
    (s.callState = .answered → s.casState ∈ [CasState.answerTxd, .executingDoubleAnswer] ∧ s.mfState = .off) := by
  rw [coupled_iff, hd]
  simp only [callStateFits, groupFits, mfStateFits, dialingFits, exchangeFits, answeredCas, answeredMf,
    Bool.and_eq_true, Bool.or_eq_true, Bool.not_eq_true', ← Bool.not_eq_true, decide_eq_true_eq, List.contains_iff_mem,
    List.mem_cons, List.not_mem_nil]
  constructor
  · rintro ⟨h1, h2, h3, h4, h5, -, -⟩
    have hcas : s.casState ≠ .answerRxd := by
      intro e
      simp [e, sideOf] at h1
    grind
  · rintro ⟨h1, h2, h3, h4, h5⟩
    refine ⟨h1, h2, h3, h4, fun e => ?_, ⟨?_, ?_⟩, ?_⟩ <;> grind

/-- The coupling on the forward side. -/
theorem coupled_forward {s : State} (hd : s.direction = .forward) : vectorCoupled s = true ↔
    sideOf s.casState = .forward ∧ s.callState ∈ [CallState.dialing, .accepted, .answered, .disconnected] ∧
    s.mfGroup ∈ [MfGroup.fwdInit, .gi, .gii, .giii, .dtmfFwdInit] ∧
    s.mfState ∈ [MfState.off, .categoryTxd, .dnisTxd, .dnisEndTxd, .aniTxd, .aniEndTxd, .waitingTimeout, .dialingDtmf] ∧
    (s.callState = .answered → s.casState = .answerRxd) ∧
    (s.mfState = .dialingDtmf → s.mfGroup = .dtmfFwdInit) ∧
    (s.mfState ∉ [MfState.off, .dialingDtmf] →
      s.mfGroup ≠ .dtmfFwdInit ∧ (s.casState = .seizeAckRxd ∨ s.casState = .answerRxdMfPending)) := by
  rw [coupled_iff, hd]
  simp only [callStateFits, groupFits, mfStateFits, dialingFits, exchangeFits, answeredCas, answeredMf,
    Bool.and_eq_true, Bool.or_eq_true, Bool.not_eq_true', ← Bool.not_eq_true, decide_eq_true_eq, List.contains_iff_mem,
    List.mem_cons, List.not_mem_nil]
  constructor
  · rintro ⟨h1, h2, h3, h4, h5, h6, h7⟩
    have hcas : s.casState ≠ .answerTxd ∧ s.casState ≠ .executingDoubleAnswer := by
      constructor <;> intro e <;> simp [e, sideOf] at h1
    grind
  · rintro ⟨h1, h2, h3, h4, h5, h6, h7⟩
    refine ⟨h1, h2, h3, h4, fun e => ?_, ⟨?_, ?_⟩, ?_⟩ <;> grind

theorem coupled_backward_group {s : State} (h : vectorCoupled s = true) (hd : s.direction = .backward) :
    s.mfGroup ∈ [MfGroup.backInit, .ga, .gb, .gc, .dtmfBackInit] := ((coupled_backward hd).mp h).2.2.1

theorem coupled_forward_group {s : State} (h : vectorCoupled s = true) (hd : s.direction = .forward) :
    s.mfGroup ∈ [MfGroup.fwdInit, .gi, .gii, .giii, .dtmfFwdInit] := ((coupled_forward hd).mp h).2.2.1

/-- A channel with a given state vector. -/
def withVector (c : CasState) (d : Direction) (l : CallState) (g : MfGroup) (m : MfState) : State :=
  { State.reset with casState := c, direction := d, callState := l, mfGroup := g, mfState := m }

theorem vectorCoupled_withVector (s : State) :
    vectorCoupled s = vectorCoupled (withVector s.casState s.direction s.callState s.mfGroup s.mfState) := rfl

/-- Each row is a coupled vector. -/
theorem vectorCoupled_of_listed {s : State} (h : vectorListed s = true) : vectorCoupled s = true := by
  have key : ∀ r ∈ tableRows ++ furtherRows, ∀ c ∈ r.cas, ∀ l ∈ r.calls, ∀ g ∈ r.groups, ∀ m ∈ r.states,
      vectorCoupled (withVector c r.side l g m) = true := by decide
  simp only [vectorListed, List.any_eq_true] at h
  obtain ⟨r, hr, hin⟩ := h
  simp only [inRow, Bool.and_eq_true, decide_eq_true_eq, List.contains_iff_mem] at hin
  obtain ⟨⟨⟨⟨hcas, hdir⟩, hcall⟩, hgroup⟩, hmf⟩ := hin
  rw [vectorCoupled_withVector, hdir]
  exact key r hr _ hcas _ hcall _ hgroup _ hmf

/-! ### States that fit by their vector -/

section Vectors
variable {A B C : Prop} {s t : State}

/-- The answer delay does not run away from the wait between the accept and call-accepted. -/
theorem Fit.delay_off (h : Fit A B C s) (c : C)
    (hne : ¬ (s.casState = .seizeAckTxd ∧ s.callState = .offered ∧ s.mfState = .off)) :
    isArmed .answerDelay s = false := by
  have hd := h.delay c
  simp only [answerDelayFits, Bool.or_eq_true, Bool.and_eq_true, decide_eq_true_eq, Bool.not_eq_true'] at hd
  exact hd.resolve_right fun ⟨⟨hcas, hcall⟩, hmf⟩ => hne ⟨hcas, hcall, hmf⟩

theorem answerDelayFits_of_off (h : isArmed .answerDelay t = false) : answerDelayFits t = true := by
  simp [answerDelayFits, h]

theorem Fit.delay_off_forward (h : Fit A B C s) (c : C) (hd : s.direction = .forward) :
    isArmed .answerDelay s = false := by
  refine h.delay_off c fun ⟨hcas, _, _⟩ => ?_
  have hside := coupled_side h.coupled
  rw [hcas, hd] at hside
  cases hside

/-- With the exchange over the engine may be released if it is silent. -/
theorem silent_of_off (hmf : t.mfState = .off) (hcas : t.casState ≠ .seizeRxd)
    (htone : t.mfLive = true ∨ t.mfWriteTone = 0) : silentWhenReleased t = true := by
  rcases htone with h | h <;> simp [silentWhenReleased, toneState, hmf, hcas, h]

theorem Fit.tone_of_released (h : Fit A B C s) (b : B) : s.mfLive = true ∨ s.mfWriteTone = 0 :=
  ((silent_iff s).mp (h.silent b)).1

/-- In a tone state the engine is live. -/
theorem Fit.live_of_tone (h : Fit A B C s) (b : B) (hm : toneState s.mfState = true) : s.mfLive = true :=
  ((silent_iff s).mp (h.silent b)).2.1 hm

theorem Fit.group_of_tone (h : Fit A B C s) (b : B) (hm : toneState s.mfState = true) : s.mfGroup ≠ .dtmfBackInit := by
  intro hg
  rw [((silent_iff s).mp (h.silent b)).2.2.2 hg] at hm
  cases hm

/-- In a tone state with the engine live. -/
theorem silent_of_live (hl : t.mfLive = true) (hcas : t.casState ≠ .seizeRxd)
    (hg : t.mfGroup ≠ .dtmfBackInit ∨ toneState t.mfState = false) : silentWhenReleased t = true := by
  rcases hg with h | h <;> simp [silentWhenReleased, hl, hcas, h]

/-- A vector in a row, during a call. -/
theorem Fit.of_listed (hl : vectorListed t = true) (hd : t.direction ≠ .stopped)
    (hs : B → silentWhenReleased t = true) (ha : C → isArmed .answerDelay t = false) : Fit A B C t where
  coupled := vectorCoupled_of_listed hl
  stray _ := by simp [noStrayTimer, hd]
  silent := hs
  listed _ := hl
  delay c := answerDelayFits_of_off (ha c)

/-- A vector during a call, in a row if it was in one before. -/
theorem Fit.of_coupled (hc : vectorCoupled t = true) (hd : t.direction ≠ .stopped)
    (hs : B → silentWhenReleased t = true) (hl : C → vectorListed t = true)
    (ha : C → isArmed .answerDelay t = false) : Fit A B C t where
  coupled := hc
  stray _ := by simp [noStrayTimer, hd]
  silent := hs
  listed := hl
  delay c := answerDelayFits_of_off (ha c)

end Vectors

/-! ### The rows, spelled out -/

/-- R313 as one disjunction over the rows. -/
theorem vectorListed_iff (s : State) : vectorListed s = true ↔ ∃ r ∈ tableRows ++ furtherRows,
    s.casState ∈ r.cas ∧ s.direction = r.side ∧ s.callState ∈ r.calls ∧ s.mfGroup ∈ r.groups ∧ s.mfState ∈ r.states := by
  simp only [vectorListed, List.any_eq_true, inRow, Bool.and_eq_true, decide_eq_true_eq, List.contains_iff_mem, and_assoc]

section Rows
variable {s : State} (h : vectorListed s = true)
include h

theorem listed_seizeRxd (hcas : s.casState = .seizeRxd) :
    s.direction = .backward ∧ s.callState = .collecting ∧ s.mfGroup = .backInit ∧ s.mfState = .off := by
  simpa [vectorListed_iff, tableRows, backwardRows, forwardRows, furtherRows, hcas] using h

/-- Before Seize-Ack of an outgoing call. -/
theorem listed_seizeTxd (hcas : s.casState = .seizeTxd) :
    s.direction = .forward ∧ s.callState = .dialing ∧ (s.mfGroup = .fwdInit ∨ s.mfGroup = .dtmfFwdInit) ∧
      s.mfState = .off := by
  simpa [vectorListed_iff, tableRows, backwardRows, forwardRows, furtherRows, hcas] using h

theorem listed_glare (hcas : s.casState = .doubleSeizure ∨ s.casState = .doubleSeizureClearFwdPending) :
    s.direction = .forward ∧ s.callState = .disconnected ∧ (s.mfGroup = .fwdInit ∨ s.mfGroup = .dtmfFwdInit) ∧
      s.mfState = .off := by
  rcases hcas with hcas | hcas <;>
    simpa [vectorListed_iff, tableRows, backwardRows, forwardRows, furtherRows, hcas] using h

theorem listed_acceptRxd (hcas : s.casState = .acceptRxd) :
    s.direction = .forward ∧ s.callState = .accepted ∧ (s.mfGroup = .gi ∨ s.mfGroup = .gii) ∧ s.mfState = .off := by
  simpa [vectorListed_iff, tableRows, backwardRows, forwardRows, furtherRows, hcas] using h

/-- The backward side asks for digits only in Group A or C, before the call is offered. -/
theorem listed_asking (hmf : s.mfState ∈ [MfState.dnisRqTxd, .categoryRqTxd, .aniRqTxd]) :
    s.casState = .seizeAckTxd ∧ s.direction = .backward ∧ s.callState = .collecting ∧
      (s.mfGroup = .ga ∨ s.mfGroup = .gc) := by
  simp only [List.mem_cons, List.not_mem_nil, or_false] at hmf
  rcases hmf with hmf | hmf | hmf <;>
    simpa [vectorListed_iff, tableRows, backwardRows, forwardRows, furtherRows, hmf] using h

/-- The Seize-Ack state of the engine: before the first tone, or in Group A when the first request failed. -/
theorem listed_seizeAckTxd (hmf : s.mfState = .seizeAckTxd) :
    s.casState = .seizeAckTxd ∧ s.direction = .backward ∧ s.callState = .collecting ∧
      (s.mfGroup = .backInit ∨ s.mfGroup = .ga) := by
  have hrow := h
  simp [vectorListed_iff, tableRows, backwardRows, forwardRows, furtherRows, hmf] at hrow
  grind

theorem listed_chgGii (hmf : s.mfState = .chgGiiTxd) :
    s.casState = .seizeAckTxd ∧ s.direction = .backward ∧
      ((s.callState = .collecting ∧ (s.mfGroup = .ga ∨ s.mfGroup = .gc)) ∨
        (s.callState = .offered ∧ s.mfGroup = .gb)) := by
  have hrow := h
  simp [vectorListed_iff, tableRows, backwardRows, forwardRows, furtherRows, hmf] at hrow
  grind

theorem listed_acceptedTxd (hmf : s.mfState = .acceptedTxd) :
    s.casState = .seizeAckTxd ∧ s.direction = .backward ∧
      ((s.callState = .collecting ∧ (s.mfGroup = .ga ∨ s.mfGroup = .gc)) ∨
        (s.callState = .offered ∧ s.mfGroup = .gb)) := by
  have hrow := h
  simp [vectorListed_iff, tableRows, backwardRows, forwardRows, furtherRows, hmf] at hrow
  grind

theorem listed_disconnectTxd (hmf : s.mfState = .disconnectTxd) :
    s.casState = .seizeAckTxd ∧ s.direction = .backward ∧ s.callState = .disconnected ∧ s.mfGroup = .gb := by
  simpa [vectorListed_iff, tableRows, backwardRows, forwardRows, furtherRows, hmf] using h

theorem listed_detecting (hmf : s.mfState = .detectingDtmf) :
    s.casState = .seizeAckTxd ∧ s.direction = .backward ∧ s.callState = .collecting ∧ s.mfGroup = .dtmfBackInit := by
  simpa [vectorListed_iff, tableRows, backwardRows, forwardRows, furtherRows, hmf] using h

theorem listed_offered (hcall : s.callState = .offered) :
    s.casState = .seizeAckTxd ∧ s.direction = .backward ∧
      ((s.mfGroup = .gb ∧ (s.mfState = .chgGiiTxd ∨ s.mfState = .acceptedTxd ∨ s.mfState = .off)) ∨
        ((s.mfGroup = .ga ∨ s.mfGroup = .gc ∨ s.mfGroup = .dtmfBackInit) ∧ s.mfState = .off)) := by
  have hrow := h
  simp [vectorListed_iff, tableRows, backwardRows, forwardRows, furtherRows, hcall] at hrow
  grind

/-- A backward call that can be answered. -/
theorem listed_accepted_backward (hcall : s.callState = .accepted) (hd : s.direction = .backward) :
    s.casState = .seizeAckTxd ∧ s.mfState = .off ∧
      (s.mfGroup = .ga ∨ s.mfGroup = .gb ∨ s.mfGroup = .gc ∨ s.mfGroup = .dtmfBackInit) := by
  have hrow := h
  simp [vectorListed_iff, tableRows, backwardRows, forwardRows, furtherRows, hcall, hd] at hrow
  grind

theorem listed_doubleAnswer (hcas : s.casState = .executingDoubleAnswer) :
    s.direction = .backward ∧ s.callState = .answered ∧ s.mfState = .off ∧
      (s.mfGroup = .ga ∨ s.mfGroup = .gb ∨ s.mfGroup = .gc ∨ s.mfGroup = .dtmfBackInit) := by
  have hrow := h
  simp [vectorListed_iff, tableRows, backwardRows, forwardRows, furtherRows, hcas] at hrow
  grind

/-- The forward exchange (R211 to R220). -/
theorem listed_exchange (hmf : s.mfState ∈ [MfState.categoryTxd, .dnisTxd, .dnisEndTxd, .aniTxd, .aniEndTxd, .waitingTimeout]) :
    (s.casState = .seizeAckRxd ∨ s.casState = .answerRxdMfPending) ∧ s.direction = .forward ∧ s.callState = .dialing ∧
      (s.mfGroup = .gi ∨ s.mfGroup = .gii ∨ s.mfGroup = .giii) := by
  simp only [List.mem_cons, List.not_mem_nil, or_false] at hmf
  rcases hmf with hmf | hmf | hmf | hmf | hmf | hmf <;>
    simpa [vectorListed_iff, tableRows, backwardRows, forwardRows, furtherRows, hmf] using h

/-- After Seize-Ack of an outgoing call. -/
theorem listed_seizeAckRxd (hcas : s.casState = .seizeAckRxd) : s.direction = .forward ∧
    ((s.callState = .dialing ∧ (s.mfGroup = .gi ∨ s.mfGroup = .gii ∨ s.mfGroup = .giii) ∧
        s.mfState ∈ [MfState.categoryTxd, .dnisTxd, .dnisEndTxd, .aniTxd, .aniEndTxd, .waitingTimeout]) ∨
      ((s.callState = .dialing ∨ s.callState = .accepted) ∧ s.mfGroup = .dtmfFwdInit ∧
        (s.mfState = .off ∨ s.mfState = .dialingDtmf)) ∨
      (s.callState = .dialing ∧ s.mfGroup = .fwdInit ∧ s.mfState = .off)) := by
  have hrow := h
  simp [vectorListed_iff, tableRows, backwardRows, forwardRows, furtherRows, hcas] at hrow
  simp only [List.mem_cons, List.not_mem_nil, or_false]
  grind

end Rows

end Sys2Proof.Machine
end

section
/-! PROOFS. What each change of the state vector keeps of `Fit`, in the order of the rules that make it: one lemma for each
transition of the call, the line and the tone machine. -/

namespace Sys2Proof.Machine

section Moves
variable {A B C : Prop} {s t : State}

/-! ### Tones and engines -/

/-- A tone is selected only on a live engine (R183). -/
theorem Fit.tone (h : Fit A B C s) {tone : Tone} {o : List Action} (hl : B → s.mfLive = true ∨ tone = 0) :
    Fit A B C { s with out := o, mfWriteTone := tone } where
  coupled := h.coupled
  stray := h.stray
  silent b := by
    obtain ⟨_, hrest⟩ := (silent_iff s).mp (h.silent b)
    exact (silent_iff _).mpr ⟨hl b, hrest⟩
  listed := h.listed
  delay := h.delay

/-- The engine released (R185) outside the tone states. -/
theorem Fit.release (h : Fit A B C s) (hmf : s.mfState = .off) (hcas : s.casState ≠ .seizeRxd) :
    Fit A B C (mfRelease s) where
  coupled := h.coupled
  stray := h.stray
  silent _ := silent_of_off hmf hcas (.inr rfl)
  listed := h.listed
  delay := h.delay

/-! ### The baseline -/

/-- A vector with no call. -/
theorem Fit.of_baseline (hv : (t.casState = .idle ∨ t.casState = .blocked) ∧ t.direction = .stopped ∧ t.callState = .idle ∧
    t.mfGroup = .noGroup ∧ t.mfState = .off) (hl : t.mfWriteTone = 0) (ha : t.armed = 0) : Fit A B C t := by
  obtain ⟨hcas, hdir, hcall, hgroup, hmf⟩ := hv
  have hrow : vectorListed t = true := by
    refine (vectorListed_iff t).mpr ⟨_, List.mem_append_left _ (List.mem_cons_self ..), ?_⟩
    rcases hcas with e | e <;> simp [e, hdir, hcall, hgroup, hmf]
  exact
    { coupled := vectorCoupled_of_listed hrow
      stray := fun _ => by simp [noStrayTimer, ha]
      silent := fun _ => silent_of_off hmf (by rcases hcas with e | e <;> simp [e]) (.inr hl)
      listed := fun _ => hrow
      delay := fun _ => answerDelayFits_of_off (by simp [isArmed, ha]) }

theorem Fit.resetBaseline (s : State) : Fit A B C (resetBaseline s) :=
  .of_baseline ⟨.inl rfl, rfl, rfl, rfl, rfl⟩ rfl (by rw [resetBaseline_eq]; rfl)

/-- SET_BLOCKED leaves Blocked at the baseline (R293). -/
theorem Fit.blocked (s : State) : Fit A B C { Machine.resetBaseline s with casState := .blocked } :=
  .of_baseline ⟨.inr rfl, rfl, rfl, rfl, rfl⟩ rfl (by rw [resetBaseline_eq]; rfl)

/-! ### The end of a call: the exchange is over and the engine silent -/

/-- A vector in a row is one the rows list. -/
theorem vectorListed_of {c : CasState} {d : Direction} {l : CallState} {g : MfGroup} {m : MfState}
    (hrow : vectorListed (withVector c d l g m) = true) (hcas : t.casState = c) (hdir : t.direction = d)
    (hcall : t.callState = l) (hgroup : t.mfGroup = g) (hmf : t.mfState = m) : vectorListed t = true := by
  subst hcas hdir hcall hgroup hmf
  exact hrow

theorem Fit.clearedBackward (h : Fit A B C s) (hd : s.direction = .backward) {c : CasState}
    (hc : c ∈ [CasState.clearBackTxd, .clearForwardRxd]) (hdir : t.direction = s.direction) (hg : t.mfGroup = s.mfGroup)
    (hcas : t.casState = c) (hcall : t.callState = .disconnected) (hmf : t.mfState = .off)
    (htone : B → t.mfLive = true ∨ t.mfWriteTone = 0) (ha : C → isArmed .answerDelay t = false) : Fit A B C t := by
  have rows : ∀ c ∈ [CasState.clearBackTxd, .clearForwardRxd], ∀ g ∈ [MfGroup.backInit, .ga, .gb, .gc, .dtmfBackInit],
      vectorListed (withVector c .backward .disconnected g .off) = true := by decide
  refine .of_listed (vectorListed_of (rows c hc _ (coupled_backward_group h.coupled hd)) hcas (hdir.trans hd) hcall hg hmf)
    (by simp [hdir, hd]) (fun b => silent_of_off hmf ?_ (htone b)) ha
  rw [hcas]
  rintro rfl
  simp at hc

theorem Fit.clearedForward (h : Fit A B C s) (hd : s.direction = .forward) {c : CasState}
    (hc : c ∈ [CasState.clearBackRxd, .forcedReleaseRxd, .clearForwardTxd]) (hdir : t.direction = s.direction)
    (hg : t.mfGroup = s.mfGroup) (hcas : t.casState = c) (hcall : t.callState = .disconnected) (hmf : t.mfState = .off)
    (htone : B → t.mfLive = true ∨ t.mfWriteTone = 0) (ha : C → isArmed .answerDelay t = false) : Fit A B C t := by
  have rows : ∀ c ∈ [CasState.clearBackRxd, .forcedReleaseRxd, .clearForwardTxd],
      ∀ g ∈ [MfGroup.fwdInit, .gi, .gii, .giii, .dtmfFwdInit],
      vectorListed (withVector c .forward .disconnected g .off) = true := by decide
  refine .of_listed (vectorListed_of (rows c hc _ (coupled_forward_group h.coupled hd)) hcas (hdir.trans hd) hcall hg hmf)
    (by simp [hdir, hd]) (fun b => silent_of_off hmf ?_ (htone b)) ha
  rw [hcas]
  rintro rfl
  simp at hc

/-! ### The backward side -/

/-- The backward side may ask for what comes next (R187, R188): a request is out, or the first tone has come. -/
def Asking (s : State) : Prop := s.direction = .backward ∧
  (s.mfState ∈ [MfState.dnisRqTxd, .categoryRqTxd, .aniRqTxd] ∨ (s.mfState = .seizeAckTxd ∧ s.mfGroup = .ga))

theorem Asking.not_off (h : Asking s) : s.mfState ≠ .off := by
  obtain ⟨_, hmf⟩ := h
  simp only [List.mem_cons, List.not_mem_nil, or_false] at hmf
  grind

theorem Asking.toneState (h : Asking s) : Machine.toneState s.mfState = true := by
  obtain ⟨_, hmf⟩ := h
  simp only [List.mem_cons, List.not_mem_nil, or_false] at hmf
  rcases hmf with (e | e | e) | ⟨e, _⟩ <;> rw [e] <;> rfl

/-- In a tone state the call is not in SeizeRxd. -/
theorem Fit.not_seizeRxd (h : Fit A B C s) (b : B) (hm : s.mfState ≠ .off) : s.casState ≠ .seizeRxd := fun e =>
  hm (((silent_iff s).mp (h.silent b)).2.2.1 e).2.1

theorem Fit.listed_of_asking (h : Fit A B C s) (ha : Asking s) (c : C) :
    s.casState = .seizeAckTxd ∧ s.callState = .collecting ∧ (s.mfGroup = .ga ∨ s.mfGroup = .gc) := by
  obtain ⟨_, hmf | ⟨hmf, hg⟩⟩ := ha
  · obtain ⟨hcas, _, hcall, hg⟩ := listed_asking (h.listed c) hmf
    exact ⟨hcas, hcall, hg⟩
  · obtain ⟨hcas, _, hcall, _⟩ := listed_seizeAckTxd (h.listed c) hmf
    exact ⟨hcas, hcall, .inl hg⟩

theorem Fit.delay_off_of_mfState (h : Fit A B C s) (c : C) (hm : s.mfState ≠ .off) : isArmed .answerDelay s = false :=
  h.delay_off c fun e => hm e.2.2

/-- A request is out (R187). -/
theorem Fit.asked (h : Fit A B C s) (ha : Asking s) {st : MfState}
    (hst : st ∈ [MfState.categoryRqTxd, .dnisRqTxd, .aniRqTxd, .chgGiiTxd, .acceptedTxd]) :
    Fit A B C { s with mfState := st } := by
  have hd := ha.1
  refine .of_coupled ?_ (by simp [hd]) (fun b => ?_) (fun c => ?_) fun c => h.delay_off_of_mfState c ha.not_off
  · obtain ⟨h1, h2, h3, h4, h5⟩ := (coupled_backward hd).mp h.coupled
    refine (coupled_backward (by exact hd)).mpr ⟨h1, h2, h3, ?_, fun e => absurd (h5 e).2 ha.not_off⟩
    simp only [List.mem_cons, List.not_mem_nil, or_false] at hst ⊢
    grind
  · exact silent_of_live (h.live_of_tone b ha.toneState) (h.not_seizeRxd b ha.not_off)
      (.inl (h.group_of_tone b ha.toneState))
  · have rows : ∀ m ∈ [MfState.categoryRqTxd, .dnisRqTxd, .aniRqTxd, .chgGiiTxd, .acceptedTxd],
        ∀ g, g = .ga ∨ g = .gc → vectorListed (withVector .seizeAckTxd .backward .collecting g m) = true := by
      rintro m hm g (rfl | rfl) <;> revert m <;> decide
    obtain ⟨hcas, hcall, hg⟩ := h.listed_of_asking ha c
    exact vectorListed_of (rows st hst _ hg) hcas hd hcall rfl rfl

/-- A request moves the exchange between the groups A and C (R188). -/
theorem Fit.regrouped (h : Fit A B C s) (hd : s.direction = .backward)
    (hm : s.mfState ∈ [MfState.dnisRqTxd, .categoryRqTxd]) {g : MfGroup} (hg : g ∈ [MfGroup.ga, .gc]) :
    Fit A B C { s with mfGroup := g } := by
  have ha : Asking s := ⟨hd, .inl (by simp only [List.mem_cons, List.not_mem_nil, or_false] at hm ⊢; grind)⟩
  refine .of_coupled ?_ (by simp [hd]) (fun b => ?_) (fun c => ?_) fun c => h.delay_off_of_mfState c ha.not_off
  · obtain ⟨h1, h2, h3, h4, h5⟩ := (coupled_backward hd).mp h.coupled
    refine (coupled_backward (by exact hd)).mpr ⟨h1, h2, ?_, h4, h5⟩
    simp only [List.mem_cons, List.not_mem_nil, or_false] at hg ⊢
    grind
  · refine silent_of_live (h.live_of_tone b ha.toneState) (h.not_seizeRxd b ha.not_off) (.inl ?_)
    rintro rfl
    simp at hg
  · have rows : ∀ m ∈ [MfState.dnisRqTxd, .categoryRqTxd], ∀ g ∈ [MfGroup.ga, .gc],
        vectorListed (withVector .seizeAckTxd .backward .collecting g m) = true := by decide
    obtain ⟨hcas, hcall, _⟩ := h.listed_of_asking ha c
    exact vectorListed_of (rows _ hm g hg) hcas hd hcall rfl rfl

/-- The first forward tone opens Group A (R195). -/
theorem Fit.opened (h : Fit A B C s) (hd : s.direction = .backward) (hm : s.mfState = .seizeAckTxd) :
    Fit A B C { s with mfGroup := .ga } := by
  have htone : Machine.toneState s.mfState = true := by rw [hm]; rfl
  refine .of_coupled ?_ (by simp [hd]) (fun b => ?_) (fun c => ?_) fun c => h.delay_off_of_mfState c (by simp [hm])
  · obtain ⟨h1, h2, h3, h4, h5⟩ := (coupled_backward hd).mp h.coupled
    exact (coupled_backward (by exact hd)).mpr ⟨h1, h2, by simp, h4, h5⟩
  · exact silent_of_live (h.live_of_tone b htone) (h.not_seizeRxd b (by simp [hm])) (.inl (by simp))
  · obtain ⟨hcas, _, hcall, _⟩ := listed_seizeAckTxd (h.listed c) hm
    exact vectorListed_of (c := .seizeAckTxd) (d := .backward) (l := .collecting) (g := .ga) (m := .seizeAckTxd) (by decide)
      hcas hd hcall rfl hm

/-- The Group II category offers the call (R205). -/
theorem Fit.offeredGroupII (h : Fit A B C s) (hd : s.direction = .backward) (hm : s.mfState = .chgGiiTxd) (cat : Tone) :
    Fit A B C { s with callerCategory := cat, mfGroup := .gb, callState := .offered } := by
  have htone : Machine.toneState s.mfState = true := by rw [hm]; rfl
  refine .of_coupled ?_ (by simp [hd]) (fun b => ?_) (fun c => ?_) fun c => h.delay_off_of_mfState c (by simp [hm])
  · obtain ⟨h1, h2, h3, h4, h5⟩ := (coupled_backward hd).mp h.coupled
    exact (coupled_backward (by exact hd)).mpr ⟨h1, by simp, by simp, h4, nofun⟩
  · exact silent_of_live (h.live_of_tone b htone) (h.not_seizeRxd b (by simp [hm])) (.inl (by simp))
  · obtain ⟨hcas, _, _⟩ := listed_chgGii (h.listed c) hm
    exact vectorListed_of (c := .seizeAckTxd) (d := .backward) (l := .offered) (g := .gb) (m := .chgGiiTxd) (by decide)
      hcas hd rfl rfl hm

/-- The accept tone belongs to the backward side. -/
theorem Fit.backward_of_acceptedTxd (h : Fit A B C s) (hm : s.mfState = .acceptedTxd) : s.direction = .backward := by
  have hfits := (coupled_parts h.coupled).2.2.2.1
  rw [hm] at hfits
  cases hd : s.direction <;> rw [hd] at hfits <;> first | rfl | cases hfits

/-- The accept signal of an immediate accept offers the call (R206, R226). -/
theorem Fit.offered (h : Fit A B C s) (hm : s.mfState = .acceptedTxd) (hcall : s.callState = .collecting) :
    Fit A B C { mfRelease s with mfState := .off, callState := .offered } := by
  have hd := h.backward_of_acceptedTxd hm
  refine .of_coupled ?_ (by simp [hd]) (fun b => ?_) (fun c => ?_) fun c => h.delay_off_of_mfState c (by simp [hm])
  · obtain ⟨h1, h2, h3, h4, h5⟩ := (coupled_backward hd).mp h.coupled
    exact (coupled_backward (by exact hd)).mpr
      ⟨h1, by simp, h3, by simp, nofun⟩
  · exact silent_of_off rfl (h.not_seizeRxd b (by simp [hm])) (.inr rfl)
  · have rows : ∀ g, g = .ga ∨ g = .gc → vectorListed (withVector .seizeAckTxd .backward .offered g .off) = true := by
      rintro g (rfl | rfl) <;> decide
    obtain ⟨hcas, _, hrow⟩ := listed_acceptedTxd (h.listed c) hm
    have hg : s.mfGroup = .ga ∨ s.mfGroup = .gc := by
      rcases hrow with ⟨_, hg⟩ | ⟨hcall', _⟩
      · exact hg
      · rw [hcall] at hcall'
        cases hcall'
    exact vectorListed_of (rows _ hg) hcas hd rfl rfl rfl

/-- The accept signal of an offered call is over (R226). -/
theorem Fit.acceptOver (h : Fit A B C s) (hm : s.mfState = .acceptedTxd) (hcall : s.callState ≠ .collecting) :
    Fit A B C { mfRelease s with mfState := .off } := by
  have hd := h.backward_of_acceptedTxd hm
  refine .of_coupled ?_ (by simp [hd]) (fun b => ?_) (fun c => ?_) fun c => h.delay_off_of_mfState c (by simp [hm])
  · obtain ⟨h1, h2, h3, h4, h5⟩ := (coupled_backward hd).mp h.coupled
    exact (coupled_backward (by exact hd)).mpr
      ⟨h1, h2, h3, by simp, fun e => absurd (h5 e).2 (by simp [hm])⟩
  · exact silent_of_off rfl (h.not_seizeRxd b (by simp [hm])) (.inr rfl)
  · obtain ⟨hcas, _, hrow⟩ := listed_acceptedTxd (h.listed c) hm
    obtain ⟨hoff, hg⟩ := hrow.resolve_left fun e => hcall e.1
    exact vectorListed_of (c := .seizeAckTxd) (d := .backward) (l := .offered) (g := .gb) (m := .off) (by decide)
      hcas hd hoff hg rfl

/-- The call may be accepted: it is offered, and the exchange over (R262). -/
def Acceptable (C : Prop) (s : State) : Prop := s.direction = .backward ∧
  (C → s.casState = .seizeAckTxd ∧ s.callState = .offered ∧ s.mfState = .off)

/-- The call accepted (R262). -/
theorem Fit.accepted (h : Fit A B C s) (ha : Acceptable C s) (hdelay : C → isArmed .answerDelay s = false) :
    Fit A B C { s with callState := .accepted } := by
  obtain ⟨hd, hrow⟩ := ha
  refine .of_coupled ?_ (by simp [hd]) (fun b => ?_) (fun c => ?_) hdelay
  · obtain ⟨h1, h2, h3, h4, h5⟩ := (coupled_backward hd).mp h.coupled
    exact (coupled_backward (by exact hd)).mpr ⟨h1, by simp, h3, h4, nofun⟩
  · exact h.silent b
  · have rows : ∀ g ∈ [MfGroup.gb, .ga, .gc, .dtmfBackInit],
        vectorListed (withVector .seizeAckTxd .backward .accepted g .off) = true := by decide
    obtain ⟨hcas, hcall, hm⟩ := hrow c
    obtain ⟨_, _, hg⟩ := listed_offered (h.listed c) hcall
    refine vectorListed_of (rows s.mfGroup ?_) hcas hd rfl rfl hm
    simp only [List.mem_cons, List.not_mem_nil, or_false]
    grind

/-- The accept tone is on (R276). -/
theorem Fit.acceptTone (hv : s.direction = .backward ∧ s.casState = .seizeAckTxd ∧
    s.callState = .offered ∧ s.mfGroup = .gb) (hl : s.mfLive = true) (hdelay : isArmed .answerDelay s = false) (mode : Mode) :
    Fit A B C { s with acceptMode := mode, mfState := .acceptedTxd } := by
  obtain ⟨hd, hcas, hcall, hg⟩ := hv
  exact .of_listed (vectorListed_of (c := .seizeAckTxd) (d := .backward) (l := .offered) (g := .gb) (m := .acceptedTxd)
    (by decide) hcas hd hcall hg rfl) (by simp [hd])
    (fun _ => silent_of_live hl (by simp [hcas]) (.inl (by simp [hg]))) fun _ => hdelay

/-- The disconnect tone is on (R286). -/
theorem Fit.disconnectTone (h : Fit A B C s) (hd : s.direction = .backward) (hm : s.mfState = .chgGiiTxd)
    (hg : s.mfGroup = .gb) : Fit A B C { s with mfState := .disconnectTxd, callState := .disconnected } := by
  have htone : Machine.toneState s.mfState = true := by rw [hm]; rfl
  refine .of_coupled ?_ (by simp [hd]) (fun b => ?_) (fun c => ?_) fun c => h.delay_off_of_mfState c (by simp [hm])
  · obtain ⟨h1, h2, h3, h4, h5⟩ := (coupled_backward hd).mp h.coupled
    exact (coupled_backward (by exact hd)).mpr
      ⟨h1, by simp, h3, by simp, nofun⟩
  · exact silent_of_live (h.live_of_tone b htone) (h.not_seizeRxd b (by simp [hm])) (.inl (by simp [hg]))
  · obtain ⟨hcas, _, _⟩ := listed_chgGii (h.listed c) hm
    exact vectorListed_of (c := .seizeAckTxd) (d := .backward) (l := .disconnected) (g := .gb) (m := .disconnectTxd)
      (by decide) hcas hd rfl hg rfl

/-- The disconnect tone is over, and Clear-Back on the line (R227). -/
theorem Fit.disconnectOver (h : Fit A B C s) (hd : s.direction = .backward) (hm : s.mfState = .disconnectTxd) :
    Fit A B C { mfRelease s with mfState := .off, casState := .clearBackTxd } := by
  refine .of_coupled ?_ (by simp [hd]) (fun b => ?_) (fun c => ?_) fun c => h.delay_off_of_mfState c (by simp [hm])
  · obtain ⟨h1, h2, h3, h4, h5⟩ := (coupled_backward hd).mp h.coupled
    exact (coupled_backward (by exact hd)).mpr
      ⟨rfl, h2, h3, by simp, fun e => absurd (h5 e).2 (by simp [hm])⟩
  · exact silent_of_off rfl (by simp) (.inr rfl)
  · obtain ⟨_, _, hcall, hg⟩ := listed_disconnectTxd (h.listed c) hm
    exact vectorListed_of (c := .clearBackTxd) (d := .backward) (l := .disconnected) (g := .gb) (m := .off)
      (by decide) rfl hd hcall hg rfl

/-- The backward call answered (R282). -/
theorem Fit.answeredBackward (h : Fit A B C s) (hg : answerGuard s = true) {c : CasState}
    (hc : c ∈ [CasState.answerTxd, .executingDoubleAnswer]) (hdir : t.direction = s.direction)
    (hgroup : t.mfGroup = s.mfGroup) (hcas : t.casState = c) (hcall : t.callState = .answered) (hmf : t.mfState = .off)
    (htone : t.mfWriteTone = 0) (ha : C → isArmed .answerDelay t = false) : Fit A B C t := by
  simp only [answerGuard, Bool.and_eq_true, Bool.or_eq_true, decide_eq_true_eq] at hg
  obtain ⟨⟨⟨_, hd⟩, _⟩, hstate⟩ := hg
  have hd' := hdir.trans hd
  refine .of_coupled ?_ (by simp [hd']) (fun _ => silent_of_off hmf ?_ (.inr htone)) (fun k => ?_) ha
  · obtain ⟨h1, h2, h3, h4, h5⟩ := (coupled_backward hd).mp h.coupled
    refine (coupled_backward hd').mpr ⟨?_, by simp [hcall], by rwa [hgroup], by simp [hmf], fun _ => ⟨by rwa [hcas], hmf⟩⟩
    rw [hcas]
    simp only [List.mem_cons, List.not_mem_nil, or_false] at hc
    rcases hc with rfl | rfl <;> rfl
  · rw [hcas]
    rintro rfl
    simp at hc
  · have rows : ∀ c ∈ [CasState.answerTxd, .executingDoubleAnswer], ∀ g ∈ [MfGroup.ga, .gb, .gc, .dtmfBackInit],
        vectorListed (withVector c .backward .answered g .off) = true := by decide
    refine vectorListed_of (rows c hc s.mfGroup ?_) hcas hd' hcall hgroup hmf
    simp only [List.mem_cons, List.not_mem_nil, or_false]
    rcases hstate with hacc | ⟨_, hg⟩
    · exact (listed_accepted_backward (h.listed k) hacc hd).2.2
    · simp [hg]

/-- The double answer is over (R254). -/
theorem Fit.answerStays (h : Fit A B C s) (hcas : s.casState = .executingDoubleAnswer) :
    Fit A B C { s with casState := .answerTxd } := by
  have hd : s.direction = .backward := by rw [← coupled_side h.coupled, hcas]; rfl
  refine .of_coupled ?_ (by simp [hd]) (fun b => ?_) (fun c => ?_) fun c => h.delay_off c (by simp [hcas])
  · obtain ⟨h1, h2, h3, h4, h5⟩ := (coupled_backward hd).mp h.coupled
    exact (coupled_backward (by exact hd)).mpr
      ⟨rfl, h2, h3, h4, fun e => ⟨by simp, (h5 e).2⟩⟩
  · obtain ⟨h1, h2, _, h4⟩ := (silent_iff s).mp (h.silent b)
    exact (silent_iff _).mpr ⟨h1, h2, nofun, h4⟩
  · obtain ⟨_, hcall, hm, hg⟩ := listed_doubleAnswer (h.listed c) hcas
    have rows : ∀ g ∈ [MfGroup.ga, .gb, .gc, .dtmfBackInit],
        vectorListed (withVector .answerTxd .backward .answered g .off) = true := by decide
    exact vectorListed_of (rows s.mfGroup (by simpa using hg)) rfl hd hcall rfl hm

/-! ### The start of an incoming call -/

/-- An incoming call (R140). -/
theorem Fit.of_incoming (hv : t.casState = .seizeRxd ∧ t.direction = .backward ∧ t.callState = .collecting ∧
    t.mfGroup = .backInit ∧ t.mfState = .off) (hl : t.mfLive = true) (ha : C → isArmed .answerDelay t = false) :
    Fit A B C t := by
  obtain ⟨hcas, hd, hcall, hg, hm⟩ := hv
  exact .of_listed (vectorListed_of (c := .seizeRxd) (d := .backward) (l := .collecting) (g := .backInit) (m := .off)
    (by decide) hcas hd hcall hg hm) (by simp [hd])
    (fun _ => (silent_iff t).mpr ⟨.inl hl, fun _ => hl, fun _ => ⟨hl, hm, hg⟩, by simp [hg]⟩) ha

/-- Seize-Ack is on the line (R144). -/
theorem Fit.seizeAcked (h : Fit A B C s) (hcas : s.casState = .seizeRxd) :
    Fit A B C { s with casState := .seizeAckTxd, mfState := .seizeAckTxd } := by
  have hd : s.direction = .backward := by rw [← coupled_side h.coupled, hcas]; rfl
  refine .of_coupled ?_ (by simp [hd]) (fun b => ?_) (fun c => ?_) fun c => h.delay_off c (by simp [hcas])
  · obtain ⟨h1, h2, h3, h4, h5⟩ := (coupled_backward hd).mp h.coupled
    refine (coupled_backward (by exact hd)).mpr
      ⟨rfl, h2, h3, by simp, fun e => ?_⟩
    have := (h5 e).1
    simp [hcas] at this
  · obtain ⟨hl, _, hg⟩ := ((silent_iff s).mp (h.silent b)).2.2.1 hcas
    exact silent_of_live hl (by simp) (.inl (by simp [hg]))
  · obtain ⟨_, hcall, hg, _⟩ := listed_seizeRxd (h.listed c) hcas
    exact vectorListed_of (c := .seizeAckTxd) (d := .backward) (l := .collecting) (g := .backInit) (m := .seizeAckTxd)
      (by decide) rfl hd hcall hg rfl

/-! ### The DTMF path of the backward side -/

/-- The first DTMF digit chooses the DTMF path (R230). -/
theorem Fit.detecting (h : Fit A B C s) (hd : s.direction = .backward) (hm : s.mfState = .seizeAckTxd) :
    Fit A B C { s with mfGroup := .dtmfBackInit, mfState := .detectingDtmf } := by
  refine .of_coupled ?_ (by simp [hd]) (fun b => ?_) (fun c => ?_) fun c => h.delay_off_of_mfState c (by simp [hm])
  · obtain ⟨h1, h2, h3, h4, h5⟩ := (coupled_backward hd).mp h.coupled
    exact (coupled_backward (by exact hd)).mpr
      ⟨h1, h2, by simp, by simp, fun e => absurd (h5 e).2 (by simp [hm])⟩
  · exact silent_of_live (h.live_of_tone b (by rw [hm]; rfl)) (h.not_seizeRxd b (by simp [hm])) (.inr rfl)
  · obtain ⟨hcas, _, hcall, _⟩ := listed_seizeAckTxd (h.listed c) hm
    exact vectorListed_of (c := .seizeAckTxd) (d := .backward) (l := .collecting) (g := .dtmfBackInit) (m := .detectingDtmf)
      (by decide) hcas hd hcall rfl rfl

/-- The DTMF call is offered (R231). -/
theorem Fit.dtmfOffered (h : Fit A B C s) (hd : s.direction = .backward) (hm : s.mfState = .detectingDtmf) :
    Fit A B C { s with dnisDone := true, mfState := .off, callState := .offered } := by
  refine .of_coupled ?_ (by simp [hd]) (fun b => ?_) (fun c => ?_) fun c => h.delay_off_of_mfState c (by simp [hm])
  · obtain ⟨h1, h2, h3, h4, h5⟩ := (coupled_backward hd).mp h.coupled
    exact (coupled_backward (by exact hd)).mpr
      ⟨h1, by simp, h3, by simp, nofun⟩
  · exact silent_of_off rfl (h.not_seizeRxd b (by simp [hm])) (h.tone_of_released b)
  · obtain ⟨hcas, _, _, hg⟩ := listed_detecting (h.listed c) hm
    exact vectorListed_of (c := .seizeAckTxd) (d := .backward) (l := .offered) (g := .dtmfBackInit) (m := .off)
      (by decide) hcas hd rfl hg rfl

/-! ### The forward side -/

theorem Fit.forward_of_cas (h : Fit A B C s) {c : CasState} (hcas : s.casState = c) (hc : sideOf c = .forward) :
    s.direction = .forward := by rw [← coupled_side h.coupled, hcas, hc]

/-- MAKE_CALL opens the call (R272). -/
theorem Fit.dialled (h : Fit A B C s) (hcas : s.casState = .idle) (category : Category) (restricted : Bool) :
    Fit A B C (openCall category restricted s) := by
  have rows : ∀ b : Bool, vectorListed (withVector .seizeTxd .forward .dialing
      (if b then .dtmfFwdInit else .fwdInit) .off) = true := by decide
  exact .of_listed (vectorListed_of (rows s.cfg.dialWithDtmf) rfl rfl rfl rfl rfl) (by simp [openCall])
    (fun b => silent_of_off rfl (by simp [openCall]) (h.tone_of_released b)) fun c => h.delay_off c (by simp [hcas])

/-- Seize-Ack is seen (R143). -/
theorem Fit.seizeAckSeen (h : Fit A B C s) (hcas : s.casState = .seizeTxd) :
    Fit A B C { s with casState := .seizeAckRxd } := by
  have hd := h.forward_of_cas hcas rfl
  refine .of_coupled ?_ (by simp [hd]) (fun b => ?_) (fun c => ?_) fun c => h.delay_off_forward c hd
  · obtain ⟨h1, h2, h3, h4, h5, h6, h7⟩ := (coupled_forward hd).mp h.coupled
    refine (coupled_forward (by exact hd)).mpr
      ⟨rfl, h2, h3, h4, fun e => ?_, h6, fun e => ⟨(h7 e).1, .inl rfl⟩⟩
    have := h5 e
    simp [hcas] at this
  · obtain ⟨h1, h2, _, h4⟩ := (silent_iff s).mp (h.silent b)
    exact (silent_iff _).mpr ⟨h1, h2, nofun, h4⟩
  · obtain ⟨_, hcall, hg, hm⟩ := listed_seizeTxd (h.listed c) hcas
    have rows : ∀ g, g = .fwdInit ∨ g = .dtmfFwdInit →
        vectorListed (withVector .seizeAckRxd .forward .dialing g .off) = true := by
      rintro g (rfl | rfl) <;> decide
    exact vectorListed_of (rows _ hg) rfl hd hcall rfl hm

/-- The exchange of the forward side is open: a response is due in one of its groups (R210 to R216). -/
theorem Fit.of_exchange (hv : (t.casState = .seizeAckRxd ∨ t.casState = .answerRxdMfPending) ∧ t.direction = .forward ∧
      (t.mfGroup = .gi ∨ t.mfGroup = .gii ∨ t.mfGroup = .giii) ∧
      t.mfState ∈ [MfState.categoryTxd, .dnisTxd, .dnisEndTxd, .aniTxd, .aniEndTxd, .waitingTimeout])
    (hcall : t.callState ∈ [CallState.dialing, .accepted, .disconnected]) (hl : B → t.mfLive = true)
    (hdial : C → t.callState = .dialing) (ha : C → isArmed .answerDelay t = false) : Fit A B C t := by
  obtain ⟨hcas, hd, hg, hm⟩ := hv
  have hnot : t.casState ≠ .seizeRxd := by rcases hcas with e | e <;> simp [e]
  refine .of_coupled ((coupled_forward (by exact hd)).mpr ⟨?_, ?_, ?_, ?_, ?_, ?_, ?_⟩) (by simp [hd])
    (fun b => silent_of_live (hl b) hnot (.inl ?_)) (fun c => ?_) ha
  · rcases hcas with e | e <;> rw [e] <;> rfl
  · simp only [List.mem_cons, List.not_mem_nil, or_false] at hcall ⊢
    grind
  · simp only [List.mem_cons, List.not_mem_nil, or_false]
    grind
  · simp only [List.mem_cons, List.not_mem_nil, or_false] at hm ⊢
    grind
  · simp only [List.mem_cons, List.not_mem_nil, or_false] at hcall
    grind
  · simp only [List.mem_cons, List.not_mem_nil, or_false] at hm
    grind
  · exact fun _ => ⟨by rcases hg with e | e | e <;> simp [e], hcas⟩
  · rcases hg with e | e | e <;> simp [e]
  · have rows : ∀ k, k = .seizeAckRxd ∨ k = .answerRxdMfPending → ∀ g, g = .gi ∨ g = .gii ∨ g = .giii →
        ∀ m ∈ [MfState.categoryTxd, .dnisTxd, .dnisEndTxd, .aniTxd, .aniEndTxd, .waitingTimeout],
        vectorListed (withVector k .forward .dialing g m) = true := by
      rintro k (rfl | rfl) g (rfl | rfl | rfl) <;> decide
    exact vectorListed_of (rows _ hcas _ hg _ hm) rfl hd (hdial c) rfl rfl

/-- The forward exchange has a tone out or due. -/
def Exchanging (s : State) : Prop := s.direction = .forward ∧ (s.mfGroup = .gi ∨ s.mfGroup = .gii ∨ s.mfGroup = .giii) ∧
  s.mfState ≠ .off

/-- What an open exchange says of the other components (R313). -/
theorem Fit.exchanging (h : Fit A B C s) (he : Exchanging s) :
    (s.casState = .seizeAckRxd ∨ s.casState = .answerRxdMfPending) ∧
      s.mfState ∈ [MfState.categoryTxd, .dnisTxd, .dnisEndTxd, .aniTxd, .aniEndTxd, .waitingTimeout] ∧
      s.callState ∈ [CallState.dialing, .accepted, .disconnected] ∧ (B → s.mfLive = true) ∧
      (C → s.callState = .dialing) := by
  obtain ⟨hd, hg, hm⟩ := he
  obtain ⟨h1, h2, h3, h4, h5, h6, h7⟩ := (coupled_forward hd).mp h.coupled
  have hdial : s.mfState ≠ .dialingDtmf := fun e => by rcases hg with g | g | g <;> simp [g] at h6 <;> exact h6 e
  obtain ⟨_, hcas⟩ := h7 (by simp [hm, hdial])
  have hex : s.mfState ∈ [MfState.categoryTxd, .dnisTxd, .dnisEndTxd, .aniTxd, .aniEndTxd, .waitingTimeout] := by
    simp only [List.mem_cons, List.not_mem_nil, or_false] at h4 ⊢
    grind
  refine ⟨hcas, hex, ?_, fun b => h.live_of_tone b ?_, fun c => (listed_exchange (h.listed c) hex).2.2.1⟩
  · simp only [List.mem_cons, List.not_mem_nil, or_false] at h2 ⊢
    grind
  · simp only [List.mem_cons, List.not_mem_nil, or_false] at hex
    rcases hex with e | e | e | e | e | e <;> rw [e] <;> rfl

/-- Another response falls due, in a group of the forward side (R212 to R216). -/
theorem Fit.due (h : Fit A B C s) (he : Exchanging s) (hcas : t.casState = s.casState) (hdir : t.direction = s.direction)
    (hcall : t.callState = s.callState) (hl : t.mfLive = s.mfLive) (ha : t.armed = s.armed)
    (hg : t.mfGroup = .gi ∨ t.mfGroup = .gii ∨ t.mfGroup = .giii)
    (hm : t.mfState ∈ [MfState.categoryTxd, .dnisTxd, .dnisEndTxd, .aniTxd, .aniEndTxd, .waitingTimeout]) :
    Fit A B C t := by
  obtain ⟨hcas', _, hcall', hlive, hdial⟩ := h.exchanging he
  have harm : isArmed .answerDelay t = isArmed .answerDelay s := by rw [isArmed, ha]; rfl
  exact .of_exchange ⟨hcas ▸ hcas', hdir.trans he.1, hg, hm⟩ (hcall ▸ hcall') (fun b => hl.trans (hlive b))
    (fun c => hcall.trans (hdial c)) fun c => harm.trans (h.delay_off_forward c he.1)

/-- DTMF dialling is to start (R143). -/
theorem Fit.of_dialArmed (hv : t.casState = .seizeAckRxd ∧ t.direction = .forward ∧ t.mfGroup = .dtmfFwdInit ∧
      t.mfState = .off) (hcall : t.callState ∈ [CallState.dialing, .accepted, .disconnected])
    (htone : B → t.mfLive = true ∨ t.mfWriteTone = 0) (hdial : C → t.callState = .dialing)
    (ha : C → isArmed .answerDelay t = false) : Fit A B C t := by
  obtain ⟨hcas, hd, hg, hm⟩ := hv
  refine .of_coupled ((coupled_forward (by exact hd)).mpr ⟨by rw [hcas]; rfl, ?_, by simp [hg], by simp [hm], ?_, by simp [hg],
    by simp [hm]⟩) (by simp [hd]) (fun b => silent_of_off hm (by simp [hcas]) (htone b)) (fun c => ?_) ha
  · simp only [List.mem_cons, List.not_mem_nil, or_false] at hcall ⊢
    grind
  · simp only [List.mem_cons, List.not_mem_nil, or_false] at hcall
    grind
  · exact vectorListed_of (c := .seizeAckRxd) (d := .forward) (l := .dialing) (g := .dtmfFwdInit) (m := .off)
      (by decide) hcas hd (hdial c) hg hm

/-- DTMF dialling has started (R260). -/
theorem Fit.dialingStarted (h : Fit A B C s) (hcas : s.casState = .seizeAckRxd) (hg : s.mfGroup = .dtmfFwdInit) :
    Fit A B C { s with mfState := .dialingDtmf } := by
  have hd := h.forward_of_cas hcas rfl
  refine .of_coupled ?_ (by simp [hd]) (fun b => ?_) (fun c => ?_) fun c => h.delay_off_forward c hd
  · obtain ⟨h1, h2, h3, h4, h5, h6, h7⟩ := (coupled_forward hd).mp h.coupled
    exact (coupled_forward (by exact hd)).mpr
      ⟨h1, h2, h3, by simp, h5, fun _ => hg, by simp⟩
  · obtain ⟨h1, _, _, _⟩ := (silent_iff s).mp (h.silent b)
    exact (silent_iff _).mpr ⟨h1, nofun, fun e => by simp [hcas] at e, fun _ => rfl⟩
  · have rows : ∀ l, l = .dialing ∨ l = .accepted →
        vectorListed (withVector .seizeAckRxd .forward l .dtmfFwdInit .dialingDtmf) = true := by
      rintro l (rfl | rfl) <;> decide
    obtain ⟨_, hrow⟩ := listed_seizeAckRxd (h.listed c) hcas
    have hcall : s.callState = .dialing ∨ s.callState = .accepted := by grind
    exact vectorListed_of (rows _ hcall) hcas hd rfl hg rfl

/-! ### Glare -/

/-- The peer's Seize in SeizeTxd (R142). -/
theorem Fit.glare (h : Fit A B C s) (hcas : s.casState = .seizeTxd) :
    Fit A B C { s with casState := .doubleSeizure, callState := .disconnected } := by
  have hd := h.forward_of_cas hcas rfl
  refine .of_coupled ?_ (by simp [hd]) (fun b => ?_) (fun c => ?_) fun c => h.delay_off_forward c hd
  · obtain ⟨h1, h2, h3, h4, h5, h6, h7⟩ := (coupled_forward hd).mp h.coupled
    refine (coupled_forward (by exact hd)).mpr
      ⟨rfl, by simp, h3, h4, nofun, h6, fun e => absurd (h7 e).2 (by simp [hcas])⟩
  · obtain ⟨h1, h2, _, h4⟩ := (silent_iff s).mp (h.silent b)
    exact (silent_iff _).mpr ⟨h1, h2, nofun, h4⟩
  · obtain ⟨_, _, hg, hm⟩ := listed_seizeTxd (h.listed c) hcas
    have rows : ∀ g, g = .fwdInit ∨ g = .dtmfFwdInit →
        vectorListed (withVector .doubleSeizure .forward .disconnected g .off) = true := by
      rintro g (rfl | rfl) <;> decide
    exact vectorListed_of (rows _ hg) rfl hd rfl rfl hm

/-- Glare goes on to the other glare state, or to the clear (R154, R155). -/
theorem Fit.glareLeft (h : Fit A B C s) (hcas : s.casState = .doubleSeizure) {k : CasState}
    (hk : k = .doubleSeizureClearFwdPending ∨ k = .clearForwardTxd) : Fit A B C { s with casState := k } := by
  have hd := h.forward_of_cas hcas rfl
  refine .of_coupled ?_ (by simp [hd]) (fun b => ?_) (fun c => ?_) fun c => h.delay_off_forward c hd
  · obtain ⟨h1, h2, h3, h4, h5, h6, h7⟩ := (coupled_forward hd).mp h.coupled
    refine (coupled_forward (by exact hd)).mpr
      ⟨by rcases hk with rfl | rfl <;> rfl, h2, h3, h4, fun e => ?_, h6, fun e => absurd (h7 e).2 (by simp [hcas])⟩
    have := h5 e
    simp [hcas] at this
  · obtain ⟨h1, h2, _, h4⟩ := (silent_iff s).mp (h.silent b)
    exact (silent_iff _).mpr ⟨h1, h2, fun e => absurd e (by rcases hk with rfl | rfl <;> simp), h4⟩
  · obtain ⟨_, hcall, hg, hm⟩ := listed_glare (h.listed c) (.inl hcas)
    have rows : ∀ k, k = .doubleSeizureClearFwdPending ∨ k = .clearForwardTxd → ∀ g, g = .fwdInit ∨ g = .dtmfFwdInit →
        vectorListed (withVector k .forward .disconnected g .off) = true := by
      rintro k (rfl | rfl) g (rfl | rfl) <;> decide
    exact vectorListed_of (rows k hk _ hg) rfl hd hcall rfl hm

/-! ### Accept and answer on the forward side -/

/-- Answer before the accept tone (R147). -/
theorem Fit.answerPending (h : Fit A B C s) (hcas : s.casState = .seizeAckRxd) (hg : s.mfGroup ≠ .dtmfFwdInit) :
    Fit A B C { s with casState := .answerRxdMfPending } := by
  have hd := h.forward_of_cas hcas rfl
  refine .of_coupled ?_ (by simp [hd]) (fun b => ?_) (fun c => ?_) fun c => h.delay_off_forward c hd
  · obtain ⟨h1, h2, h3, h4, h5, h6, h7⟩ := (coupled_forward hd).mp h.coupled
    refine (coupled_forward (by exact hd)).mpr
      ⟨rfl, h2, h3, h4, fun e => ?_, h6, fun e => ⟨(h7 e).1, .inr rfl⟩⟩
    have := h5 e
    simp [hcas] at this
  · obtain ⟨h1, h2, _, h4⟩ := (silent_iff s).mp (h.silent b)
    exact (silent_iff _).mpr ⟨h1, h2, nofun, h4⟩
  · obtain ⟨_, hrow⟩ := listed_seizeAckRxd (h.listed c) hcas
    rcases hrow with ⟨hcall, hgroup, hm⟩ | ⟨_, e, _⟩ | ⟨hcall, hgroup, hm⟩
    · have rows : ∀ g, g = .gi ∨ g = .gii ∨ g = .giii →
          ∀ m ∈ [MfState.categoryTxd, .dnisTxd, .dnisEndTxd, .aniTxd, .aniEndTxd, .waitingTimeout],
          vectorListed (withVector .answerRxdMfPending .forward .dialing g m) = true := by
        rintro g (rfl | rfl | rfl) <;> decide
      exact vectorListed_of (rows _ hgroup _ hm) rfl hd hcall rfl rfl
    · exact absurd e hg
    · exact vectorListed_of (c := .answerRxdMfPending) (d := .forward) (l := .dialing) (g := .fwdInit) (m := .off)
        (by decide) rfl hd hcall hgroup hm

/-- The call can become Answered at once: DTMF dialling, or the accept tone after Answer (R149). -/
def Answerable (s : State) : Prop := s.direction = .forward ∧
  ((s.casState = .seizeAckRxd ∧ s.mfGroup = .dtmfFwdInit ∧ (s.mfState = .off ∨ s.mfState = .dialingDtmf)) ∨
    (s.casState = .answerRxdMfPending ∧ (s.mfGroup = .gi ∨ s.mfGroup = .gii) ∧ s.mfState = .off))

/-- The call accepted, before it becomes Answered (R149). -/
theorem Fit.of_answerable (ha : Answerable t) (hcall : t.callState = .accepted)
    (htone : B → t.mfLive = true ∨ t.mfWriteTone = 0) (hdelay : C → isArmed .answerDelay t = false) : Fit A B C t := by
  obtain ⟨hd, ⟨hcas, hg, hm⟩ | ⟨hcas, hg, hm⟩⟩ := ha
  · have rows : ∀ m, m = .off ∨ m = .dialingDtmf →
        vectorListed (withVector .seizeAckRxd .forward .accepted .dtmfFwdInit m) = true := by
      rintro m (rfl | rfl) <;> decide
    refine .of_listed (vectorListed_of (rows _ hm) hcas hd hcall hg rfl) (by simp [hd]) (fun b => ?_) hdelay
    refine (silent_iff t).mpr ⟨htone b, fun e => ?_, by simp [hcas], by simp [hg]⟩
    rcases hm with hm | hm <;> rw [hm] at e <;> cases e
  · have rows : ∀ g, g = .gi ∨ g = .gii →
        vectorListed (withVector .answerRxdMfPending .forward .accepted g .off) = true := by
      rintro g (rfl | rfl) <;> decide
    exact .of_listed (vectorListed_of (rows _ hg) hcas hd hcall rfl hm) (by simp [hd])
      (fun b => silent_of_off hm (by simp [hcas]) (htone b)) hdelay

/-- The call answered (R148, R149). -/
theorem Fit.answeredForward (h : Fit A B C s) (hd : s.direction = .forward)
    (hrow : (s.mfGroup = .dtmfFwdInit ∧ (s.mfState = .off ∨ s.mfState = .dialingDtmf)) ∨
      (s.mfState = .off ∧ (C → s.mfGroup = .gi ∨ s.mfGroup = .gii))) :
    Fit A B C { s with casState := .answerRxd, callState := .answered, answered := true } := by
  have hm : s.mfState = .off ∨ s.mfState = .dialingDtmf := by grind
  refine .of_coupled ?_ (by simp [hd]) (fun b => ?_) (fun c => ?_) fun c => h.delay_off_forward c hd
  · obtain ⟨h1, h2, h3, h4, h5, h6, h7⟩ := (coupled_forward hd).mp h.coupled
    refine (coupled_forward (by exact hd)).mpr
      ⟨rfl, by simp, h3, h4, fun _ => rfl, h6, fun e => ?_⟩
    rcases hm with hm | hm <;> simp [hm] at e
  · obtain ⟨h1, h2, _, h4⟩ := (silent_iff s).mp (h.silent b)
    exact (silent_iff _).mpr ⟨h1, h2, nofun, h4⟩
  · rcases hrow with ⟨hg, hm⟩ | ⟨hm, hg⟩
    · have rows : ∀ m, m = .off ∨ m = .dialingDtmf →
          vectorListed (withVector .answerRxd .forward .answered .dtmfFwdInit m) = true := by
        rintro m (rfl | rfl) <;> decide
      exact vectorListed_of (rows _ hm) rfl hd rfl hg rfl
    · have rows : ∀ g, g = .gi ∨ g = .gii → vectorListed (withVector .answerRxd .forward .answered g .off) = true := by
        rintro g (rfl | rfl) <;> decide
      exact vectorListed_of (rows _ (hg c)) rfl hd rfl rfl hm

/-- The accept tone before Answer (R224). -/
theorem Fit.of_acceptRxd (hd : t.direction = .forward) (hcas : t.casState = .acceptRxd) (hcall : t.callState = .accepted)
    (hg : t.mfGroup = .gi ∨ t.mfGroup = .gii) (hm : t.mfState = .off) (htone : B → t.mfLive = true ∨ t.mfWriteTone = 0)
    (hdelay : C → isArmed .answerDelay t = false) : Fit A B C t := by
  have rows : ∀ g, g = .gi ∨ g = .gii → vectorListed (withVector .acceptRxd .forward .accepted g .off) = true := by
    rintro g (rfl | rfl) <;> decide
  exact .of_listed (vectorListed_of (rows _ hg) hcas hd hcall rfl hm) (by simp [hd])
    (fun b => silent_of_off hm (by simp [hcas]) (htone b)) hdelay

/-- A refusal by tone (R225). -/
theorem Fit.toneRefused (h : Fit A B C s) (he : Exchanging s) :
    Fit A B C { s with mfState := .off, casState := .clearBackToneRxd, callState := .disconnected } := by
  obtain ⟨hd, hg, _⟩ := he
  have rows : ∀ g, g = .gi ∨ g = .gii ∨ g = .giii →
      vectorListed (withVector .clearBackToneRxd .forward .disconnected g .off) = true := by
    rintro g (rfl | rfl | rfl) <;> decide
  exact .of_listed (vectorListed_of (rows _ hg) rfl hd rfl rfl rfl) (by simp [hd])
    (fun b => silent_of_off rfl (by simp) (h.tone_of_released b)) fun c => h.delay_off_forward c hd

end Moves

end Sys2Proof.Machine
end

section
/-! PROOFS. Every rule keeps `Fit`, whatever the application answers, in the order of the rules in the model. What the rule's
guard says of the state stands as a hypothesis of its lemma; by induction on the depth the nested operations keep it. -/

namespace Sys2Proof.Machine

/-- From `s`, `m` leads to a state that fits, whether it goes on or ends the operation. -/
def Fits (A B C : Prop) {α : Type} (m : Act α) (s : State) : Prop := Fit A B C (lastState (m s))

/-- A word nested in a response keeps `Fit` (R316); where the rows are asked for, so is the silence of a released engine. -/
def NestedFit (A B C : Prop) (x : Ctx) : Prop := (C → B) ∧ ∀ w, Keeps (Fit A B C) (x.reenter w)

/-- The state after a tone is selected (R183). -/
def toned (tone : Tone) (s : State) : State := { s with out := s.out ++ toneActions tone s, mfWriteTone := tone }

theorem setTone_toned (x : Ctx) (tone : Tone) (s : State) (h : x.env.werr = false ∨ tone = 0 ∨ tone = s.mfWriteTone) :
    setTone x tone s = .ok () (toned tone s) := setTone_ok x tone s h

/-- A tone buffer that cannot be flushed (R183, R336). -/
theorem setTone_failed (x : Ctx) (tone : Tone) (s : State) (hw : x.env.werr = true) (h0 : tone ≠ 0)
    (hne : tone ≠ s.mfWriteTone) : setTone x tone s = ioError x .toneFlush s := by
  unfold setTone
  rw [see_bind, if_neg hne, if_neg h0, if_pos hw]

section Rules
variable {α β : Type} {A B C : Prop} {x : Ctx} {s : State}

/-! ### Pieces -/

namespace Fits

theorem upd {f : State → State} (h : Fit A B C (f s)) : Fits A B C (Machine.upd f) s := h

theorem seq {f : State → State} {n : Act α} (h : Fits A B C n (f s)) : Fits A B C (Machine.upd f >>= fun _ => n) s := h

theorem look {f : State → Act α} (h : Fits A B C (f s) s) : Fits A B C (see >>= f) s := h

theorem bind {m : Act α} {f : α → Act β} (hm : Fits A B C m s)
    (hf : ∀ a s', m s = .ok a s' → Fit A B C s' → Fits A B C (f a) s') : Fits A B C (m >>= f) s := by
  unfold Fits at hm ⊢
  rw [bind_apply]
  cases heq : m s with
  | ok a s' => exact hf a s' heq (by simpa [heq, lastState] using hm)
  | error e s' => simpa [heq, lastState] using hm

theorem andThen {m : Act α} {f : α → Act β} (hm : Fits A B C m s) (hf : ∀ a, Keeps (Fit A B C) (f a)) :
    Fits A B C (m >>= f) s := Keeps.bind_at hm hf

theorem ite {c : Prop} [Decidable c] {m n : Act α} (hm : c → Fits A B C m s) (hn : ¬ c → Fits A B C n s) :
    Fits A B C (if c then m else n) s := by
  split
  · exact hm ‹_›
  · exact hn ‹_›

end Fits

/-- A change outside what the invariants read. -/
theorem frame_fit {f : State → State} (hv : ∀ s, vectorOf (f s) = vectorOf s) (ha : ∀ s, (f s).armed = s.armed) :
    Keeps (Fit A B C) (upd f) := .upd fun s hs => hs.frame (hv s) (ha s)

theorem cancel_fit {t : Timer} : Keeps (Fit A B C) (upd (cancel t)) := .upd fun _ hs => hs.cancel t

theorem status_fit (st : Status) : Keeps (Fit A B C) (status st) := frame_fit (fun _ => rfl) fun _ => rfl

variable (hx : NestedFit A B C x)
include hx

/-! ### Events, I/O and the error path -/

theorem emit_fit (ev : Event) : Keeps (Fit A B C) (emit x ev) :=
  .emit ev (fun _ hs => hs.frame rfl rfl) (fun _ _ hs => hs.frame rfl rfl) hx.2

theorem notify_fit (ev : Event) : Keeps (Fit A B C) (notify x ev) := .bind (emit_fit hx ev) fun _ => .pure _

theorem ioError_fit (what : OsError) : Keeps (Fit A B C) (ioError x what : Act α) :=
  .seq (notify_fit hx _) (.seq (status_fit _) .finish)

theorem getLine_fit : Keeps (Fit A B C) (getLine x) := .ite (fun _ => ioError_fit hx _) fun _ => .pure _

theorem txSignal_fit (sig : Signal) : Keeps (Fit A B C) (txSignal x sig) :=
  .ite (fun _ => ioError_fit hx _) fun _ => frame_fit (fun _ => rfl) fun _ => rfl

/-- A line write, then the rest of the rule: the rest runs only in the state after a write that worked (R134, R336). -/
theorem txSignal_seq_fit (sig : Signal) {n : Act α} (h : Fit A B C s) (hn : Fits A B C n (writeLine sig s)) :
    Fits A B C (txSignal x sig >>= fun _ => n) s := by
  unfold txSignal
  rw [ite_bind]
  refine .ite (fun _ => ?_) fun _ => hn
  rw [ioError_bind]
  exact ioError_fit hx _ s h

/-- A tone, then the rest of the rule: the rest runs only with the tone selected (R183, R336). -/
theorem setTone_seq_fit (tone : Tone) {n : Act α} (h : Fit A B C s)
    (hn : Fits A B C n (toned tone s)) :
    Fits A B C (setTone x tone >>= fun _ => n) s := by
  by_cases hok : x.env.werr = false ∨ tone = 0 ∨ tone = s.mfWriteTone
  · unfold Fits
    rw [bind_ok (setTone_toned x tone s hok)]
    exact hn
  · simp only [not_or, Bool.not_eq_false] at hok
    obtain ⟨hw, h0, hne⟩ := hok
    have e : (setTone x tone >>= fun _ => n) s = ((ioError x .toneFlush : Act Unit) >>= fun _ => n) s := by
      rw [bind_apply, setTone_failed x tone s hw h0 hne, ← bind_apply]
    unfold Fits
    rw [e, ioError_bind]
    exact ioError_fit hx _ s h

theorem setTone_fit (tone : Tone) (h : Fit A B C s) (hl : B → s.mfLive = true ∨ tone = 0) :
    Fits A B C (setTone x tone) s := by
  have e : setTone x tone = (setTone x tone >>= fun _ => pure ()) := (bind_pure _).symm
  rw [e]
  exact setTone_seq_fit hx tone h (Fits.upd (f := id) (h.tone hl))

theorem errorIdle_fit : Keeps (Fit A B C) (errorIdle x) :=
  .ite (fun _ => notify_fit hx _) fun _ => frame_fit (fun _ => rfl) fun _ => rfl

theorem errorPath_fit (kind : ErrorKind) : Keeps (Fit A B C) (errorPath x kind) :=
  .seq (frame_fit (fun _ => rfl) fun _ => rfl)
    (.seq (errorIdle_fit hx) (.seq (.upd fun s _ => .resetBaseline s) (notify_fit hx _)))

theorem protocolError_fit (kind : ErrorKind) : Keeps (Fit A B C) (protocolError x kind : Act α) :=
  .seq (errorPath_fit hx kind) (.seq (status_fit _) .finish)

/-- An engine initialised, then the rest of the rule (R184, R186). -/
theorem init_seq_fit {f : State → State} {n : Act α} (h : Fit A B C s) (hn : Fits A B C n (f s)) :
    Fits A B C ((if x.env.ierr then protocolError x .internalError else upd f) >>= fun _ => n) s := by
  rw [ite_bind]
  refine .ite (fun _ => ?_) fun _ => hn
  rw [protocolError_bind]
  exact protocolError_fit hx _ s h

theorem emitGuarded_fit (ev : Event) : Keeps (Fit A B C) (emitGuarded x ev) :=
  .look fun _ => .bind (emit_fit hx ev) fun _ => .look fun _ => .pure _

omit hx in
/-- A guarded event that the rule goes on after has left the snapshot as it was (R317). -/
theorem emitGuarded_some {ev : Event} {r : RespBits} {s' : State} (h : emitGuarded x ev s = .ok (some r) s') :
    snapshot s' = snapshot s := by
  unfold emitGuarded at h
  rw [see_bind, bind_apply] at h
  cases heq : emit x ev s with
  | error e u => rw [heq] at h; cases h
  | ok a u =>
    simp only [heq, see_bind, pure_apply, EStateM.Result.ok.injEq] at h
    obtain ⟨hif, rfl⟩ := h
    by_contra hne
    rw [if_neg hne] at hif
    cases hif

/-! ### The lifecycle procedures -/

theorem handleDisconnect_fit (sig : Signal) (cause : Cause) (h : Fit A B C s) (hd : s.direction = .forward) :
    Fits A B C (handleDisconnect x sig cause) s := by
  have hcas : disconnectedCas sig ∈ [CasState.clearBackRxd, .forcedReleaseRxd, .clearForwardTxd] := by
    unfold disconnectedCas
    split <;> simp
  have h1 := h.cancelEach disconnectTimers
  have hd1 : (cancelEach disconnectTimers s).direction = .forward := by simp [hd]
  refine .seq (.seq (.seq (notify_fit hx _ _ ?_)))
  exact h1.clearedForward hd1 hcas rfl rfl rfl rfl rfl (fun _ => .inr rfl) fun c => h1.delay_off_forward c hd1

theorem endCall_fit : Keeps (Fit A B C) (endCall x) :=
  .seq (txSignal_fit hx _) (.seq (.upd fun s _ => .resetBaseline s) (notify_fit hx _))

theorem clearForwardReceived_fit (h : Fit A B C s) (hd : s.direction = .backward) :
    Fits A B C (clearForwardReceived x) s := by
  refine .seq (.seq (.seq (notify_fit hx _ _ ?_)))
  exact h.clearedBackward hd (c := .clearForwardRxd) (by simp) (by simp) (by simp) rfl rfl rfl (fun _ => .inr rfl)
    fun _ => by simp [isArmed, cancelAll_eq]

theorem acceptThenAnswer_fit (mode : Mode) (ha : Answerable s) (htone : B → s.mfLive = true ∨ s.mfWriteTone = 0)
    (hdelay : C → isArmed .answerDelay s = false) : Fits A B C (acceptThenAnswer x mode) s := by
  have h1 : Fit A B C { cancel .answer s with callState := .accepted } := by
    refine .of_answerable ?_ rfl (by simpa using htone) fun c => ?_
    · simpa [Answerable] using ha
    · show isArmed .answerDelay (cancel .answer s) = false
      rw [isArmed_cancel, hdelay c]
      rfl
  refine .seq (.seq (.bind (emitGuarded_fit hx _ _ h1) fun r s' heq hs' => ?_))
  cases r with
  | none => exact hs'
  | some r =>
    have hsnap := emitGuarded_some heq
    simp only [snapshot, Snapshot.mk.injEq, cancel_casState, cancel_mfState, cancel_mfGroup] at hsnap
    obtain ⟨hcas, hmf, hg, hcall⟩ := hsnap
    have hd' : s'.direction = .forward := by
      obtain ⟨_, ⟨h, _⟩ | ⟨h, _⟩⟩ := ha <;> rw [← coupled_side hs'.coupled, hcas, h] <;> rfl
    refine .seq (notify_fit hx _ _ (hs'.answeredForward hd' ?_))
    obtain ⟨_, ⟨_, hg', hm⟩ | ⟨_, hg', hm⟩⟩ := ha
    · exact .inl ⟨hg.trans hg', by rwa [hmf]⟩
    · exact .inr ⟨hmf.trans hm, fun _ => by rwa [hg]⟩

theorem convergeGlare_fit (h : Fit A B C s) : Fits A B C (convergeGlare x) s := by
  refine .look (.ite (fun hcas => ?_) fun _ => endCall_fit hx s h)
  have h1 := h.glareLeft hcas (.inr rfl)
  exact h1.arm (by rw [← coupled_side h1.coupled]; simp [sideOf]) (by simp)

theorem localClearForward_fit (h : Fit A B C s) : Fits A B C (localClearForward x) s :=
  txSignal_seq_fit hx _ h (.seq (convergeGlare_fit hx ((h.frame (t := writeLine .clearForward s) rfl rfl).cancel _)))

theorem acceptedNow_fit (h : Fit A B C s) (ha : Acceptable C s) (hdelay : C → isArmed .answerDelay s = false) :
    Fits A B C (acceptedNow x) s :=
  .seq (.look (notify_fit hx _ _ (h.accepted ha hdelay)))

theorem readyToAnswer_fit (h : Fit A B C s) (ha : Acceptable C s) (hdelay : C → isArmed .answerDelay s = false) :
    Fits A B C (readyToAnswer x) s :=
  .look (.ite (fun _ => acceptedNow_fit hx h ha hdelay) fun _ => h.armDelay (by simp [ha.1]) ha.2)

theorem sendSeizeAck_fit (h : Fit A B C s) (hcas : s.casState = .seizeRxd) : Fits A B C (sendSeizeAck x) s :=
  txSignal_seq_fit hx _ h (.upd ((h.frame (t := writeLine .seizeAck s) rfl rfl).seizeAcked hcas))

/-! ### The backward side of the tone machine -/

/-- A request, then the rest of the rule: the rest runs only with the request out (R187). -/
theorem request_seq_fit (tone : Tone) (st : MfState) (pulse : Bool) {n : Act α} (h : Fit A B C s)
    (hn : ∀ t, t ≠ .answerDelay → Fits A B C n (arm t { toned tone s with mfState := st })) :
    Fits A B C (request x tone st pulse >>= fun _ => n) s := by
  unfold request
  rw [ite_bind]
  refine .ite (fun _ => ?_) fun _ => ?_
  · rw [protocolError_bind]
    exact protocolError_fit hx _ s h
  · rw [bind_assoc]
    refine setTone_seq_fit hx tone h (hn _ ?_)
    cases pulse <;> simp

omit hx in
/-- A request is out: the vector it leaves fits (R187). -/
theorem Fit.requested {tone : Tone} {st : MfState} {t : Timer} (h : Fit A B C s) (ha : Asking s)
    (hst : st ∈ [MfState.categoryRqTxd, .dnisRqTxd, .aniRqTxd, .chgGiiTxd, .acceptedTxd]) (ht : t ≠ .answerDelay) :
    Fit A B C (Machine.arm t { toned tone s with mfState := st }) := by
  have h1 : Fit A B C (toned tone s) := h.tone fun b => .inl (h.live_of_tone b ha.toneState)
  exact (h1.asked ha hst).arm (by simp [toned, ha.1]) ht

theorem request_fit (tone : Tone) {st : MfState} (pulse : Bool) (h : Fit A B C s) (ha : Asking s)
    (hst : st ∈ [MfState.categoryRqTxd, .dnisRqTxd, .aniRqTxd, .chgGiiTxd, .acceptedTxd]) :
    Fits A B C (request x tone st pulse) s := by
  have e : request x tone st pulse = (request x tone st pulse >>= fun _ => pure ()) := (bind_pure _).symm
  rw [e]
  exact request_seq_fit hx tone st pulse h fun t ht => h.requested ha hst ht

theorem requestDnis_fit (pulse : Bool) (h : Fit A B C s) (ha : Asking s) : Fits A B C (requestDnis x pulse) s :=
  .look (.ite
    (fun _ => request_seq_fit hx _ _ _ h fun _ ht =>
      (h.requested ha (by simp) ht).regrouped (by simp [toned, ha.1]) (by simp) (by simp))
    fun _ => request_fit hx _ pulse h ha (by simp))

theorem requestCategory_fit (pulse : Bool) (h : Fit A B C s) (ha : Asking s) :
    Fits A B C (requestCategory x pulse) s :=
  .look (.ite
    (fun _ => request_seq_fit hx _ _ _ h fun _ ht =>
      (h.requested ha (by simp) ht).regrouped (by simp [toned, ha.1]) (by simp) (by simp))
    fun _ => request_fit hx _ pulse h ha (by simp))

theorem requestAni_fit (pulse : Bool) (h : Fit A B C s) (ha : Asking s) : Fits A B C (requestAni x pulse) s :=
  .look (request_fit hx _ pulse h ha (by simp))

theorem finishCollection_fit (pulse : Bool) (h : Fit A B C s) (ha : Asking s) :
    Fits A B C (finishCollection x pulse) s :=
  .look (.ite
    (fun _ => .seq (request_fit hx _ pulse (h.frame rfl rfl) ha (by simp)))
    fun _ => request_fit hx _ pulse h ha (by simp))

theorem nextRequest_fit (pulse : Bool) (h : Fit A B C s) (ha : Asking s) : Fits A B C (nextRequest x pulse) s := by
  refine .look ?_
  cases nextWanted s with
  | dnis => exact requestDnis_fit hx pulse h ha
  | category => exact requestCategory_fit hx pulse h ha
  | ani => exact requestAni_fit hx pulse h ha
  | finish => exact finishCollection_fit hx pulse h ha

/-- A register change and the next request: the end of most backward rules. -/
theorem upd_nextRequest_fit {f : State → State} (pulse : Bool) (h : Fit A B C s) (ha : Asking s)
    (hv : vectorOf (f s) = vectorOf s) (harm : (f s).armed = s.armed) :
    Fits A B C (do upd f; nextRequest x pulse) s := by
  refine .seq (nextRequest_fit hx pulse (h.frame hv harm) ?_)
  simp only [vectorOf, Prod.mk.injEq] at hv
  obtain ⟨_, hmf, hg, _, hd, _⟩ := hv
  simpa only [Asking, hmf, hg, hd] using ha

omit hx in
/-- The backward side still asks after a callback that left the snapshot as it was (R317). -/
theorem Asking.of_snapshot {s' : State} (ha : Asking s) (h : Fit A B C s) (hs' : Fit A B C s')
    (hsnap : snapshot s' = snapshot s) : Asking s' := by
  simp only [snapshot, Snapshot.mk.injEq] at hsnap
  obtain ⟨hcas, hmf, hg, _⟩ := hsnap
  refine ⟨?_, by rw [hmf, hg]; exact ha.2⟩
  rw [← coupled_side hs'.coupled, hcas, coupled_side h.coupled, ha.1]

theorem storeDnis_fit (d : Digit) (h : Fit A B C s) (ha : Asking s) : Fits A B C (storeDnis x d) s := by
  have h1 : Fit A B C (appendDnis d s) := h.frame rfl rfl
  refine .seq (.bind (emitGuarded_fit hx _ _ h1) fun r s' heq hs' => ?_)
  cases r with
  | none => exact hs'
  | some r =>
    refine upd_nextRequest_fit hx false hs' (Asking.of_snapshot (s := appendDnis d s) ha h1 hs' (emitGuarded_some heq)) ?_ ?_ <;>
      unfold closeDnisAfter <;> split <;> rfl

theorem closeDnis_fit (h : Fit A B C s) (ha : Asking s) : Fits A B C (closeDnis x) s :=
  upd_nextRequest_fit hx false h ha rfl rfl

theorem receiveDnis_fit (t : Tone) (h : Fit A B C s) (ha : Asking s) : Fits A B C (receiveDnis x t) s := by
  refine .look ?_
  cases toneDigit t with
  | some d => exact .ite (fun _ => storeDnis_fit hx d h ha) fun _ => closeDnis_fit hx h ha
  | none => exact .ite (fun _ => closeDnis_fit hx h ha) fun _ => protocolError_fit hx _ s h

theorem receiveCategory_fit (t : Tone) (h : Fit A B C s) (ha : Asking s) : Fits A B C (receiveCategory x t) s :=
  .look (.ite (fun _ => upd_nextRequest_fit hx false h ha rfl rfl) fun _ => protocolError_fit hx _ s h)

theorem afterAniDigit_fit (h : Fit A B C s) (ha : Asking s) : Fits A B C (afterAniDigit x) s := by
  refine upd_nextRequest_fit hx false h ha ?_ ?_ <;> unfold closeAniByCount <;> split <;> rfl

theorem storeAni_fit (d : Digit) (h : Fit A B C s) (ha : Asking s) : Fits A B C (storeAni x d) s := by
  refine .look (.ite (fun _ => ?_) fun _ => afterAniDigit_fit hx h ha)
  have h1 : Fit A B C (appendAni d s) := h.frame rfl rfl
  refine .seq (.bind (emitGuarded_fit hx _ _ h1) fun r s' heq hs' => ?_)
  cases r with
  | none => exact hs'
  | some r => exact afterAniDigit_fit hx hs' (Asking.of_snapshot (s := appendAni d s) ha h1 hs' (emitGuarded_some heq))

theorem receiveAni_fit (t : Tone) (h : Fit A B C s) (ha : Asking s) : Fits A B C (receiveAni x t) s := by
  refine .look (.ite (fun _ => upd_nextRequest_fit hx false h ha rfl rfl) fun _ =>
    .ite (fun _ => upd_nextRequest_fit hx false h ha rfl rfl) fun _ => ?_)
  cases toneDigit t with
  | some d => exact storeAni_fit hx d h ha
  | none => exact protocolError_fit hx _ s h

theorem receiveGroupII_fit (t : Tone) (h : Fit A B C s) (hd : s.direction = .backward) (hm : s.mfState = .chgGiiTxd) :
    Fits A B C (receiveGroupII x t) s :=
  .look (.ite (fun _ => .seq (notify_fit hx _ _ (h.offeredGroupII hd hm t))) fun _ => protocolError_fit hx _ s h)

theorem backwardGroupToneOn_fit (t : Tone) {st : MfState} (h : Fit A B C s) (hd : s.direction = .backward)
    (hst : s.mfState = st) : Fits A B C (backwardGroupToneOn x t st) s := by
  cases st with
  | dnisRqTxd => exact receiveDnis_fit hx t h ⟨hd, by simp [hst]⟩
  | categoryRqTxd => exact receiveCategory_fit hx t h ⟨hd, by simp [hst]⟩
  | aniRqTxd => exact receiveAni_fit hx t h ⟨hd, by simp [hst]⟩
  | chgGiiTxd => exact receiveGroupII_fit hx t h hd hst
  | _ => exact protocolError_fit hx _ s h

theorem firstForwardTone_fit (t : Tone) (h : Fit A B C s) (hd : s.direction = .backward) :
    Fits A B C (firstForwardTone x t) s :=
  .look (.ite (fun hm => .seq (receiveDnis_fit hx t (h.opened hd hm) ⟨hd, .inr ⟨hm, rfl⟩⟩)) fun _ =>
    protocolError_fit hx _ s h)

theorem backwardToneOnGroup_fit (t : Tone) {st : MfState} (g : MfGroup) (h : Fit A B C s)
    (hd : s.direction = .backward) (hst : s.mfState = st) : Fits A B C (backwardToneOnGroup x t st g) s := by
  cases g with
  | backInit => exact firstForwardTone_fit hx t h hd
  | ga | gc => exact backwardGroupToneOn_fit hx t h hd hst
  | dtmfBackInit => exact h
  | _ => exact protocolError_fit hx _ s h

theorem backwardToneOn_fit (t : Tone) (h : Fit A B C s) (hd : s.direction = .backward) :
    Fits A B C (backwardToneOn x t) s :=
  .seq (.look (backwardToneOnGroup_fit hx t _ (h.cancelEach _) (by simp [hd]) rfl))

theorem acceptToneDone_fit (h : Fit A B C s) (hm : s.mfState = .acceptedTxd) : Fits A B C (acceptToneDone x) s := by
  refine .seq (.seq (.look (.ite (fun hcall => ?_) fun hcall => ?_)))
  · exact .seq (.look (notify_fit hx _ _ (h.offered hm hcall)))
  · refine readyToAnswer_fit hx (h.acceptOver hm hcall) ⟨h.backward_of_acceptedTxd hm, fun c => ?_⟩
      fun c => h.delay_off_of_mfState c (by simp [hm])
    obtain ⟨hcas, _, hrow⟩ := listed_acceptedTxd (h.listed c) hm
    exact ⟨hcas, (hrow.resolve_left fun e => hcall e.1).1, rfl⟩

theorem disconnectToneDone_fit (h : Fit A B C s) (hd : s.direction = .backward) (hm : s.mfState = .disconnectTxd) :
    Fits A B C (disconnectToneDone x) s := by
  have h1 := (h.frame (t := writeLine .clearBack s) rfl rfl).cancel .mfBackCycle
  exact txSignal_seq_fit hx _ h (.seq (.seq (.upd (h1.disconnectOver (by simp [hd]) (by simp [hm])))))

theorem backwardToneOffIn_fit {st : MfState} (h : Fit A B C s) (hd : s.direction = .backward) (hst : s.mfState = st) :
    Fits A B C (backwardToneOffIn x st) s := by
  cases st with
  | disconnectTxd => exact disconnectToneDone_fit hx h hd hst
  | acceptedTxd => exact .seq (acceptToneDone_fit hx (h.cancel _) (by simp [hst]))
  | seizeAckTxd | categoryRqTxd | dnisRqTxd | aniRqTxd | chgGiiTxd => exact setTone_fit hx 0 h fun _ => .inr rfl
  | detectingDtmf => exact h
  | _ => exact protocolError_fit hx _ s h

theorem backwardToneOff_fit (h : Fit A B C s) (hd : s.direction = .backward) : Fits A B C (backwardToneOff x) s :=
  .look (backwardToneOffIn_fit hx h hd rfl)

/-! ### The forward side of the tone machine -/

omit hx in
/-- A DNIS digit falls due, or what stands for it (R214). -/
theorem fit_dueDnis (i : Nat) (hd : s.direction ≠ .stopped) (h : ∀ n m,
    m ∈ [MfState.dnisTxd, .dnisEndTxd, .waitingTimeout] → Fit A B C { s with dnisIndex := n, mfState := m }) :
    Fit A B C (dueDnis i s) := by
  unfold dueDnis
  split_ifs
  · exact h _ _ (by simp)
  · exact h s.dnisIndex _ (by simp)
  · exact (h s.dnisIndex .waitingTimeout (by simp)).arm hd (by simp)

omit hx in
theorem Fit.dueDnis (h : Fit A B C s) (he : Exchanging s) (i : Nat) : Fit A B C (Machine.dueDnis i s) := by
  refine fit_dueDnis i (by simp [he.1]) fun n m hm => h.due he rfl rfl rfl rfl rfl he.2.1 ?_
  simp only [List.mem_cons, List.not_mem_nil, or_false] at hm ⊢
  grind

omit hx in
theorem Fit.dueAni (h : Fit A B C s) (he : Exchanging s) : Fit A B C (Machine.dueAni s) := by
  unfold Machine.dueAni
  split_ifs
  · exact h.due he rfl rfl rfl rfl rfl he.2.1 (by simp)
  · exact h.due he rfl rfl rfl rfl rfl he.2.1 (by simp)
  · exact h.due he rfl rfl rfl rfl rfl he.2.1 (by simp)
  · have h1 : Fit A B C { s with mfState := .waitingTimeout } := h.due he rfl rfl rfl rfl rfl he.2.1 (by simp)
    exact h1.arm (by simp [he.1]) (by simp)

omit hx in
theorem Fit.dueCategory (h : Fit A B C s) (he : Exchanging s) {g : MfGroup} (hg : g = .gi ∨ g = .gii ∨ g = .giii) :
    Fit A B C { Machine.dueCategory s with mfGroup := g } :=
  h.due he rfl rfl rfl rfl rfl hg (by simp [Machine.dueCategory])

theorem sendDigit_fit (d : Digit) (h : Fit A B C s) (hl : B → s.mfLive = true) : Fits A B C (sendDigit x d) s :=
  .ite (fun _ => protocolError_fit hx _ s h) fun _ => setTone_fit hx _ h fun b => .inl (hl b)

omit hx in
/-- A digit read, then the rest of the rule (R79). -/
theorem readDigit_bind_fit (buffer : List Digit) (i : Nat) {f : Digit → Act α}
    (hn : ∀ d n, Fits A B C (f d) { s with freeReads := n }) : Fits A B C (readDigit buffer i >>= f) s := by
  unfold Fits
  rcases Nat.lt_or_ge i buffer.length with h | h
  · rw [bind_ok (readDigit_lt h s)]
    exact hn _ s.freeReads
  · rw [bind_ok (readDigit_ge h s)]
    exact hn _ _

theorem sendDnisDigit_fit (h : Fit A B C s) (hl : B → s.mfLive = true) : Fits A B C (sendDnisDigit x) s :=
  .look (readDigit_bind_fit _ _ fun d _ => sendDigit_fit hx d (h.frame rfl rfl) hl)

theorem sendAniDigit_fit (h : Fit A B C s) (hl : B → s.mfLive = true) : Fits A B C (sendAniDigit x) s := by
  refine .look (readDigit_bind_fit _ _ fun d _ => .andThen (sendDigit_fit hx d (h.frame rfl rfl) hl) fun _ => ?_)
  exact frame_fit (fun _ => rfl) fun _ => rfl

theorem sendCategory_fit (h : Fit A B C s) (hl : B → s.mfLive = true) : Fits A B C (sendCategory x) s := by
  refine .look (.andThen (setTone_fit hx _ h fun b => .inl (hl b)) fun _ => ?_)
  exact frame_fit (fun _ => rfl) fun _ => rfl

theorem sendDueIn_fit (u : State) {st : MfState} (h : Fit A B C s) (hst : s.mfState = st) :
    Fits A B C (sendDueIn x u st) s := by
  have hl : toneState st = true → B → s.mfLive = true := fun e b => h.live_of_tone b (by rwa [hst])
  cases st with
  | dnisTxd => exact sendDnisDigit_fit hx h (hl rfl)
  | dnisEndTxd => exact setTone_fit hx _ h fun b => .inl (hl rfl b)
  | aniTxd => exact sendAniDigit_fit hx h (hl rfl)
  | aniEndTxd => exact setTone_fit hx _ h fun b => .inl (hl rfl b)
  | categoryTxd => exact sendCategory_fit hx h (hl rfl)
  | waitingTimeout => exact h
  | _ => exact protocolError_fit hx _ s h

theorem sendDue_fit : Keeps (Fit A B C) (sendDue x) := fun s h => Fits.look (sendDueIn_fit hx s h rfl)

theorem offsetDnis_fit (k : Nat) (h : Fit A B C s) (he : Exchanging s) : Fits A B C (offsetDnis x k) s :=
  .look (.ite (fun _ => protocolError_fit hx _ s h) fun _ => h.dueDnis he _)

theorem acceptSeen_fit (mode : Mode) (h : Fit A B C s) (he : Exchanging s) (hg : s.mfGroup = .gi ∨ s.mfGroup = .gii) :
    Fits A B C (acceptSeen x mode) s := by
  have hoff : C → isArmed .answerDelay s = false := fun c => h.delay_off_forward c he.1
  refine .seq (.look (.ite (fun hcas => ?_) fun _ => .seq (notify_fit hx _ _ ?_)))
  · exact acceptThenAnswer_fit hx mode ⟨he.1, .inr ⟨hcas, hg, rfl⟩⟩ (fun b => h.tone_of_released b) hoff
  · refine .of_acceptRxd (by simp [he.1]) (by simp) (by simp) (by simpa using hg) (by simp)
      (fun b => by simpa using h.tone_of_released b) fun c => ?_
    rw [isArmed_arm]
    exact by simpa [isArmed] using hoff c

theorem mfDisconnect_fit (cause : Cause) (h : Fit A B C s) (he : Exchanging s) : Fits A B C (mfDisconnect x cause) s :=
  .seq (.seq (notify_fit hx _ _ ((h.cancel _).toneRefused (by simpa [Exchanging] using he))))

theorem decodeGroupA_fit (t : Tone) (h : Fit A B C s) (he : Exchanging s) (hg : s.mfGroup = .gi) :
    Fits A B C (decodeGroupA x t) s :=
  .look (.ite (fun _ => h.dueDnis he _) fun _ => .ite (fun _ => offsetDnis_fit hx 1 h he) fun _ =>
    .ite (fun _ => offsetDnis_fit hx 2 h he) fun _ => .ite (fun _ => offsetDnis_fit hx 3 h he) fun _ =>
    .ite (fun _ => h.dueDnis he _) fun _ => .ite (fun _ => h.dueCategory he (.inl hg)) fun _ =>
    .ite (fun _ => h.dueCategory he (.inr (.inr rfl))) fun _ => .ite (fun _ => h.dueAni he) fun _ =>
    .ite (fun _ => h.dueCategory he (.inl hg)) fun _ => .ite (fun _ => h.dueCategory he (.inr (.inl rfl))) fun _ =>
    .ite (fun _ => acceptSeen_fit hx _ h he (.inl hg)) fun _ => .ite (fun _ => mfDisconnect_fit hx _ h he) fun _ =>
    protocolError_fit hx _ s h)

theorem decodeGroupC_fit (t : Tone) (h : Fit A B C s) (he : Exchanging s) : Fits A B C (decodeGroupC x t) s := by
  refine .look (.ite (fun _ => h.dueAni he) fun _ => .ite (fun _ => h.dueCategory he (.inr (.inl rfl))) fun _ =>
    .ite (fun _ => ?_) fun _ => .ite (fun _ => mfDisconnect_fit hx _ h he) fun _ => protocolError_fit hx _ s h)
  have h1 : Fit A B C { s with mfGroup := .gi } := h.due he rfl rfl rfl rfl rfl (.inl rfl) (h.exchanging he).2.1
  exact h1.dueDnis ⟨he.1, .inl rfl, he.2.2⟩ _

theorem decodeGroupB_fit (t : Tone) (h : Fit A B C s) (he : Exchanging s) (hg : s.mfGroup = .gii) :
    Fits A B C (decodeGroupB x t) s := by
  have accept (mode : Mode) : Fits A B C (acceptSeen x mode) s := acceptSeen_fit hx mode h he (.inr hg)
  have refuse (cause : Cause) : Fits A B C (mfDisconnect x cause) s := mfDisconnect_fit hx cause h he
  exact .look (.ite (fun _ => accept _) fun _ => .ite (fun _ => accept _) fun _ => .ite (fun _ => accept _) fun _ =>
    .ite (fun _ => refuse _) fun _ => .ite (fun _ => refuse _) fun _ => .ite (fun _ => refuse _) fun _ =>
    .ite (fun _ => refuse _) fun _ => .ite (fun _ => refuse _) fun _ => .ite (fun _ => refuse _) fun _ =>
    protocolError_fit hx _ s h)

theorem forwardToneOnGroup_fit (t : Tone) {g : MfGroup} (h : Fit A B C s) (hd : s.direction = .forward)
    (hg : s.mfGroup = g) (hm : ¬ (s.mfState = .off ∧ inForwardGroup s = true)) :
    Fits A B C (forwardToneOnGroup x t g) s := by
  have hoff : inForwardGroup s = true → s.mfState ≠ .off := fun hin e => hm ⟨e, hin⟩
  cases g with
  | gi => exact decodeGroupA_fit hx t h ⟨hd, .inl hg, hoff (by simp [inForwardGroup, hg])⟩ hg
  | giii => exact decodeGroupC_fit hx t h ⟨hd, .inr (.inr hg), hoff (by simp [inForwardGroup, hg])⟩
  | gii => exact decodeGroupB_fit hx t h ⟨hd, .inr (.inl hg), hoff (by simp [inForwardGroup, hg])⟩ hg
  | _ => exact protocolError_fit hx _ s h

theorem forwardToneOn_fit (t : Tone) (h : Fit A B C s) (hd : s.direction = .forward) :
    Fits A B C (forwardToneOn x t) s := by
  have h1 := h.cancel .mfFwdSafety
  have h2 : Fit A B C (toned 0 (cancel .mfFwdSafety s)) := h1.tone fun _ => .inr rfl
  refine .seq (setTone_seq_fit hx 0 h1 (.look (.ite (fun _ => protocolError_fit hx _ _ h2) fun hm => ?_)))
  exact forwardToneOnGroup_fit hx t h2 (by simp [toned, hd]) rfl hm

theorem forwardToneOff_fit (h : Fit A B C s) (hd : s.direction = .forward) : Fits A B C (forwardToneOff x) s := by
  refine .look (.ite (fun hm => h.release hm fun hcas => ?_) fun _ => sendDue_fit hx s h)
  have hside := coupled_side h.coupled
  rw [hcas, hd] at hside
  cases hside

/-! ### TONE_ON, TONE_OFF, DTMF_DIGIT -/

theorem bySide_fit {backward forward : Act Unit} {d : Direction} (h : Fit A B C s) (hd : s.direction = d)
    (hb : s.direction = .backward → Fits A B C backward s) (hf : s.direction = .forward → Fits A B C forward s) :
    Fits A B C (bySide x backward forward d) s := by
  cases d with
  | backward => exact hb hd
  | forward => exact hf hd
  | stopped | unassigned => exact protocolError_fit hx _ s h

theorem toneOn_fit (t : Tone) : Keeps (Fit A B C) (toneOn t x) := by
  intro s h
  refine Fits.look (.ite (fun _ => status_fit _ s h) fun _ => .ite (fun _ => status_fit _ s h) fun _ =>
    .ite (fun _ => status_fit _ s h) fun _ => .ite (fun _ => protocolError_fit hx _ s h) fun _ => ?_)
  have h1 : Fit A B C { s with mfReadTone := t } := h.frame rfl rfl
  exact .seq (.look (.andThen (bySide_fit hx h1 rfl (backwardToneOn_fit hx t h1) (forwardToneOn_fit hx t h1))
    fun _ => status_fit _))

theorem toneOff_fit : Keeps (Fit A B C) (toneOff x) := by
  intro s h
  refine Fits.look (.ite (fun _ => status_fit _ s h) fun _ => .ite (fun _ => status_fit _ s h) fun _ =>
    .ite (fun _ => status_fit _ s h) fun _ => ?_)
  have h1 : Fit A B C { s with mfReadTone := 0 } := h.frame rfl rfl
  exact .seq (.look (.andThen (bySide_fit hx h1 rfl (backwardToneOff_fit hx h1) (forwardToneOff_fit hx h1))
    fun _ => status_fit _))

theorem dtmfCollected_fit (h : Fit A B C s) (hd : s.direction = .backward) (hm : s.mfState = .detectingDtmf) :
    Fits A B C (dtmfCollected x) s :=
  .seq (notify_fit hx _ _ (h.dtmfOffered hd hm))

theorem receiveDtmf_fit (d : Digit) (h : Fit A B C s) (hd : s.direction = .backward) (hm : s.mfState = .detectingDtmf) :
    Fits A B C (receiveDtmf x d) s := by
  refine .look (.ite (fun _ => ?_) fun _ => dtmfCollected_fit hx h hd hm)
  have h1 : Fit A B C (appendDnis d s) := h.frame rfl rfl
  refine .seq (.bind (emitGuarded_fit hx _ _ h1) fun r s' heq hs' => ?_)
  cases r with
  | none => exact hs'
  | some r =>
    have hsnap := emitGuarded_some heq
    simp only [snapshot, Snapshot.mk.injEq] at hsnap
    obtain ⟨hcas, hmf, _⟩ := hsnap
    refine .look (.ite (fun _ => hs') fun _ => dtmfCollected_fit hx hs' ?_ (hmf.trans hm))
    rw [← coupled_side hs'.coupled, hcas, coupled_side h1.coupled]
    exact hd

omit hx in
/-- The DTMF path belongs to the backward side. -/
theorem Fit.backward_of_group (h : Fit A B C s) (hg : s.mfGroup = .backInit ∨ s.mfGroup = .dtmfBackInit) :
    s.direction = .backward := by
  have hfits := (coupled_parts h.coupled).2.2.1
  cases hd : s.direction <;> rw [hd] at hfits <;> rcases hg with hg | hg <;> rw [hg] at hfits <;>
    first | rfl | cases hfits

theorem dtmfDigitIn_fit (d : Digit) {st : MfState} {g : MfGroup} (h : Fit A B C s) (hst : s.mfState = st)
    (hg : s.mfGroup = g) : Fits A B C (dtmfDigitIn x d st g) s := by
  cases g with
  | backInit =>
    have hd := h.backward_of_group (.inl hg)
    exact .look (.ite (fun hm => .seq (receiveDtmf_fit hx d (h.detecting hd hm) hd rfl)) fun _ => h)
  | dtmfBackInit =>
    exact .ite (fun hm => receiveDtmf_fit hx d h (h.backward_of_group (.inr hg)) (hst.trans hm)) fun _ => h
  | _ => exact h

theorem dtmfDigit_fit (d : Digit) : Keeps (Fit A B C) (dtmfDigit d x) := fun s h =>
  Fits.look (.ite (fun _ => status_fit _ s h) fun _ => .ite (fun _ => status_fit _ s h) fun _ =>
    (dtmfDigitIn_fit hx d h rfl rfl).andThen fun _ => status_fit _)

/-! ### The line machine -/

/-- The registers of an incoming call (R140). -/
def incoming (s : State) : State :=
  { s with direction := .backward, callState := .collecting, mfGroup := .backInit, mfState := .off, casState := .seizeRxd }

theorem incomingCall_fit (h : Fit A B C s) (hcas : s.casState = .init ∨ s.casState = .idle) :
    Fits A B C (incomingCall x) s := by
  have hoff : C → isArmed .answerDelay s = false := fun c => h.delay_off c fun e => by
    rcases hcas with e' | e' <;> simp [e'] at e
  have rest (u : State) (hu : Fit A B C u) (ha : u.armed = s.armed) :
      Fits A B C (do mfInit x; upd incoming; autoSeizeAck x; notify x .callInit) u := by
    have h1 : Fit A B C (incoming (acquireMf u)) :=
      .of_incoming ⟨rfl, rfl, rfl, rfl, rfl⟩ rfl fun c => by simpa [isArmed, incoming, ha] using hoff c
    refine init_seq_fit hx hu (.seq (.andThen (.look ?_) fun _ => notify_fit hx _))
    cases (incoming (acquireMf u)).cfg.autoSeizeAck
    · exact h1
    · exact sendSeizeAck_fit hx h1 rfl
  unfold incomingCall startDetector
  rw [bind_assoc]
  refine .look ?_
  cases s.cfg.detectDtmf
  · exact rest s h rfl
  · exact init_seq_fit hx h (rest _ (h.frame rfl rfl) rfl)

theorem seizeAcknowledged_fit (h : Fit A B C s) (hcas : s.casState = .seizeTxd) :
    Fits A B C (seizeAcknowledged x) s := by
  have h0 := h.cancel .seize
  have h1 := h0.seizeAckSeen (by simpa using hcas)
  have hd := h.forward_of_cas hcas rfl
  have hoff : C → isArmed .answerDelay (cancel .seize s) = false := fun c =>
    h0.delay_off_forward c (by simpa using hd)
  have hdial : C → s.callState = .dialing := fun c => (listed_seizeTxd (h.listed c) hcas).2.1
  have hcall : s.callState ∈ [CallState.dialing, .accepted, .disconnected] := by
    obtain ⟨_, h2, _, _, h5, _⟩ := (coupled_forward hd).mp h.coupled
    have : s.callState ≠ .answered := fun e => by simp [hcas] at h5; exact h5 e
    simp only [List.mem_cons, List.not_mem_nil, or_false] at h2 ⊢
    grind
  refine .seq (.seq (.andThen (.look (.ite (fun _ => ?_) fun _ => ?_)) fun _ => notify_fit hx _))
  · have h2 : Fit A B C { cancel .seize s with casState := .seizeAckRxd, mfGroup := .dtmfFwdInit, mfState := .off } :=
      .of_dialArmed ⟨rfl, by simpa using hd, rfl, rfl⟩ (by simpa using hcall) (fun b => by simpa using h.tone_of_released b)
        (fun c => by simpa using hdial c) hoff
    exact (h2.arm (by simp [hd]) (by simp)).arm (by simp [hd]) (by simp)
  · refine init_seq_fit hx h1 (.seq (.seq (.seq (sendDue_fit hx _ (fit_dueDnis 0 ?_ fun n m hm => ?_)))))
    · simp [hd]
    · refine .of_exchange ⟨.inl rfl, by simpa using hd, .inl rfl, ?_⟩ (by simpa using hcall) (fun _ => rfl)
        (fun c => by simpa using hdial c) hoff
      simp only [List.mem_cons, List.not_mem_nil, or_false] at hm ⊢
      grind

theorem glareDetected_fit (h : Fit A B C s) (hcas : s.casState = .seizeTxd) : Fits A B C (glareDetected x) s := by
  have h1 := (h.cancel .seize).glare (by simpa using hcas)
  refine .seq (.seq (notify_fit hx _ _ (h1.arm ?_ (by simp))))
  rw [← coupled_side h1.coupled]
  simp [sideOf]

theorem disconnectSeen_fit (r : LineCode) (h : Fit A B C s) (hd : s.direction = .forward) :
    Fits A B C (disconnectSeen x r) s := by
  refine .look ?_
  cases classify s.cfg r with
  | some p => exact handleDisconnect_fit hx p.1 p.2 h hd
  | none => exact h

theorem answerBeforeAccept_fit (h : Fit A B C s) (hcas : s.casState = .seizeAckRxd) :
    Fits A B C (answerBeforeAccept x) s := by
  have hd := h.forward_of_cas hcas rfl
  refine .look (.ite (fun hg => ?_) fun hg => h.answerPending hcas hg)
  have hm : s.mfState = .off ∨ s.mfState = .dialingDtmf := by
    obtain ⟨_, _, _, _, _, _, h7⟩ := (coupled_forward hd).mp h.coupled
    by_contra hne
    exact (h7 (by simpa using hne)).1 hg
  exact acceptThenAnswer_fit hx _ ⟨hd, .inl ⟨hcas, hg, hm⟩⟩ (fun b => h.tone_of_released b)
    fun c => h.delay_off_forward c hd

theorem answerAfterAccept_fit (h : Fit A B C s) (hcas : s.casState = .acceptRxd) :
    Fits A B C (answerAfterAccept x) s := by
  have hd := h.forward_of_cas hcas rfl
  refine .seq (.seq (notify_fit hx _ _ ((h.cancel .answer).answeredForward (by simpa using hd) ?_)))
  obtain ⟨_, _, _, _, _, h6, h7⟩ := (coupled_forward hd).mp h.coupled
  simp only [cancel_mfGroup, cancel_mfState]
  by_cases hm : s.mfState = .off
  · exact .inr ⟨hm, fun c => (listed_acceptRxd (h.listed c) hcas).2.2.1⟩
  · have hdial : s.mfState = .dialingDtmf := by
      by_contra hne
      have := (h7 (by simp [hm, hne])).2
      simp [hcas] at this
    exact .inl ⟨h6 hdial, .inr hdial⟩

theorem meterOrDisconnect_fit (r : LineCode) (h : Fit A B C s) (hd : s.direction = .forward) :
    Fits A B C (meterOrDisconnect x r) s := by
  refine .look (.ite (fun _ => ?_) fun _ => disconnectSeen_fit hx r h hd)
  cases isArmed .meteringPulse s
  · exact h.arm (by simp [hd]) (by simp)
  · exact h

theorem answerReturned_fit : Keeps (Fit A B C) (answerReturned x) :=
  .look fun _ => .onlyIf (.seq cancel_fit (notify_fit hx _))

/-- The table, in a state that admits the signal (R138 to R157). -/
theorem act_fit (r : LineCode) (sig : Signal) {st : CasState} (h : Fit A B C s) (hst : s.casState = st) :
    Fits A B C (act x r sig st) s := by
  cases st with
  | init | idle =>
    cases sig with
    | idle | block => exact notify_fit hx _ s h
    | seize => exact incomingCall_fit hx h (by simp [hst])
    | _ => exact h
  | blocked =>
    cases sig with
    | idle | block => exact notify_fit hx _ s h
    | _ => exact h
  | seizeRxd | seizeAckTxd | answerTxd | executingDoubleAnswer =>
    cases sig with
    | clearForward => exact clearForwardReceived_fit hx h (by rw [← coupled_side h.coupled, hst]; rfl)
    | _ => exact h
  | clearBackTxd =>
    cases sig with
    | clearForward => exact endCall_fit hx s h
    | _ => exact h
  | seizeTxd =>
    cases sig with
    | seizeAck => exact seizeAcknowledged_fit hx h hst
    | seize => exact glareDetected_fit hx h hst
    | _ => exact h
  | seizeAckRxd =>
    cases sig with
    | answer => exact answerBeforeAccept_fit hx h hst
    | clearBack | forcedRelease => exact disconnectSeen_fit hx r h (h.forward_of_cas hst rfl)
    | _ => exact h
  | acceptRxd =>
    cases sig with
    | answer => exact answerAfterAccept_fit hx h hst
    | clearBack | forcedRelease => exact disconnectSeen_fit hx r h (h.forward_of_cas hst rfl)
    | _ => exact h
  | answerRxdMfPending =>
    cases sig with
    | clearBack | forcedRelease => exact disconnectSeen_fit hx r h (h.forward_of_cas hst rfl)
    | _ => exact h
  | answerRxd =>
    cases sig with
    | answer => exact answerReturned_fit hx s h
    | clearBack | forcedRelease => exact meterOrDisconnect_fit hx r h (h.forward_of_cas hst rfl)
    | _ => exact h
  | clearForwardTxd =>
    cases sig with
    | idle => exact endCall_fit hx s h
    | _ => exact h
  | doubleSeizure =>
    cases sig with
    | clearForward => exact h.glareLeft hst (.inl rfl)
    | _ => exact h
  | _ => exact h

theorem runTable_fit : Keeps (Fit A B C) (runTable x) := by
  intro s h
  refine Fits.look (.ite (fun _ => protocolError_fit hx _ s h) fun _ => ?_)
  cases s.rxSig with
  | none => exact protocolError_fit hx _ s h
  | some sig => exact act_fit hx _ sig h rfl

omit hx in
theorem recordSample_fit (raw : LineCode) : Keeps (Fit A B C) (upd (recordSample raw)) := by
  refine .upd fun s hs => ?_
  have h1 : Fit A B C (clearPending { s with rxRaw := raw, rxCode := maskCode s.cfg raw, rxValid := true }) :=
    hs.frame rfl rfl
  exact (h1.cancel .casPersistenceCheck).frame rfl rfl

theorem commit_fit (raw : LineCode) : Keeps (Fit A B C) (commit x raw) := .seq (recordSample_fit raw) (runTable_fit hx)

theorem lineSample_fit (raw : LineCode) : Keeps (Fit A B C) (lineSample x raw) := by
  refine .look fun s => .ite (fun _ => .upd fun t ht => ?_) fun _ => .ite (fun _ => .ite (fun _ => .pure _) fun _ =>
    .upd fun t ht => ?_) fun _ => commit_fit hx raw
  · unfold lineReverted
    split
    · exact (ht.frame (t := clearPending t) rfl rfl).cancel _
    · exact ht
  · exact (ht.frame (t := { t with pendingValid := true, pendingCode := maskCode s.cfg raw }) rfl rfl).armCheck

theorem lineOp_fit : Keeps (Fit A B C) (lineOp x) :=
  .look fun _ => .ite (fun _ => status_fit _) fun _ =>
    .bind (getLine_fit hx) fun raw => .seq (lineSample_fit hx raw) (status_fit _)

/-! ### Expiries -/

theorem noAnswer_fit (h : Fit A B C s) (hd : s.direction = .forward) : Fits A B C (noAnswer x) s := by
  have h1 := (h.frame (t := writeLine .clearForward s) rfl rfl).cancel .dtmfStartDial
  refine txSignal_seq_fit hx _ h (.seq (.seq (.seq (notify_fit hx _ _ (.arm ?_ (by simp [hd]) (by simp))))))
  exact h1.clearedForward (by simp [hd]) (c := .clearForwardTxd) (by simp) rfl rfl rfl rfl rfl (fun _ => .inr rfl)
    fun c => h1.delay_off_forward c (by simp [hd])

theorem expireAnswer_fit : Keeps (Fit A B C) (expireAnswer x) := fun s h =>
  Fits.look (.ite (fun hcas => noAnswer_fit hx h (by rw [← coupled_side h.coupled]; rcases hcas with e | e <;> rw [e] <;> rfl))
    fun _ => protocolError_fit hx _ s h)

theorem expireAnswerDelay_fit (h : Fit A B C s) (hm : C → s.mfState = .off) (hoff : isArmed .answerDelay s = false) :
    Fits A B C (expireAnswerDelay x) s := by
  refine .look (.ite (fun hv => ?_) fun _ => protocolError_fit hx _ s h)
  refine acceptedNow_fit hx h ⟨?_, fun c => ⟨hv.1, hv.2, hm c⟩⟩ fun _ => hoff
  rw [← coupled_side h.coupled, hv.1]
  rfl

theorem expireDoubleAnswer_fit : Keeps (Fit A B C) (expireDoubleAnswer x) := by
  intro s h
  refine Fits.look (.ite (fun _ => protocolError_fit hx _ s h) fun hcas => .ite (fun _ => ?_) fun _ =>
    .ite (fun _ => ?_) fun _ => protocolError_fit hx _ s h)
  · have h1 : Fit A B C (writeLine .clearBack s) := h.frame rfl rfl
    refine txSignal_seq_fit hx _ h (h1.arm ?_ (by simp))
    rw [← coupled_side h1.coupled]
    simp only [ne_eq, not_not] at hcas
    simp [hcas, sideOf]
  · exact txSignal_seq_fit hx _ h ((h.frame (t := writeLine .answer s) rfl rfl).answerStays (by simpa using hcas))

theorem expireMeteringPulse_fit : Keeps (Fit A B C) (expireMeteringPulse x) := by
  intro s h
  refine Fits.look (.ite (fun _ => protocolError_fit hx _ s h) fun hcas => ?_)
  cases classify s.cfg s.rxCode with
  | none => exact protocolError_fit hx _ s h
  | some p => exact handleDisconnect_fit hx p.1 p.2 h (h.forward_of_cas (by simpa using hcas) rfl)

theorem expireMfBackCycle_fit : Keeps (Fit A B C) (expireMfBackCycle x) := fun s h =>
  Fits.look (.ite (fun hv => upd_nextRequest_fit hx true h ⟨hv.1, .inl (by simp [hv.2.2.1])⟩ rfl rfl) fun _ =>
    .ite (fun hv => upd_nextRequest_fit hx true h ⟨hv.1, .inl (by simp [hv.2.2.1])⟩ rfl rfl) fun _ =>
    protocolError_fit hx _ s h)

/-- The pulse ends during a call (R258). -/
theorem expireMfBackResumeCycle_fit (h : Fit A B C s) (hd : A → s.direction ≠ .stopped) :
    Fits A B C (expireMfBackResumeCycle x) s := by
  have h1 : Fit A B C (toned 0 s) := h.tone fun _ => .inr rfl
  refine setTone_seq_fit hx 0 h (.look (.ite (fun hm => acceptToneDone_fit hx h1 hm) fun _ => ?_))
  exact h1.arm_of hd (by simp)

theorem expireDtmfStartDial_fit : Keeps (Fit A B C) (expireDtmfStartDial x) := by
  intro s h
  refine Fits.look (.ite (fun hv => ?_) fun _ => protocolError_fit hx _ s h)
  exact init_seq_fit hx h ((h.frame (t := acquireDtmfTx s) rfl rfl).dialingStarted hv.1 hv.2)

omit hx in
/-- The common gate of TIMER_EXP: the effect runs in the state with the bit cleared (R244). -/
theorem timerExp_fit (t : Timer) {effect : Ctx → Act Unit}
    (heffect : ∀ s, Fit A B C s → isArmed t s = true → Fits A B C (effect x) (disarm t s)) :
    Keeps (Fit A B C) (timerExp t effect x) := by
  intro s h
  refine Fits.look (.ite (fun _ => status_fit _ s h) fun _ => .ite (fun _ => status_fit _ s h) fun harm => ?_)
  exact .seq (.andThen (heffect s h (by simpa using harm)) fun _ => status_fit _)

omit hx in
/-- An effect that keeps `Fit` from every state. -/
theorem plainTimerExp_fit (t : Timer) {effect : Ctx → Act Unit} (heffect : Keeps (Fit A B C) (effect x)) :
    Keeps (Fit A B C) (timerExp t effect x) :=
  timerExp_fit t fun _ h _ => heffect _ (h.disarm t)

theorem expireSeize_fit : Keeps (Fit A B C) (expireSeize x) :=
  .look fun _ => .ite (fun _ => protocolError_fit hx _) fun _ => protocolError_fit hx _

theorem expireSeizePersist_fit : Keeps (Fit A B C) (expireSeizePersist x) := fun s h =>
  Fits.look (.ite (fun _ => localClearForward_fit hx h) fun _ => protocolError_fit hx _ s h)

theorem timerExp_answerDelay_fit : Keeps (Fit A B C) (timerExp .answerDelay expireAnswerDelay x) :=
  timerExp_fit _ fun s h harm => by
    refine expireAnswerDelay_fit hx (h.disarm _) (fun c => ?_) (by simp [isArmed_disarm])
    have hfits := h.delay c
    simp only [answerDelayFits, harm, Bool.not_true, Bool.false_or, Bool.and_eq_true, decide_eq_true_eq] at hfits
    exact hfits.2

theorem timerExp_resume_fit : Keeps (Fit A B C) (timerExp .mfBackResumeCycle expireMfBackResumeCycle x) :=
  timerExp_fit _ fun s h harm => by
    refine expireMfBackResumeCycle_fit hx (h.disarm _) fun a hd => ?_
    cases noStray_armed (h.stray a) hd harm

theorem expireCasPersistenceCheck_fit : Keeps (Fit A B C) (expireCasPersistenceCheck x) :=
  .ite (fun _ => .seq (frame_fit (fun _ => rfl) fun _ => rfl) (ioError_fit hx _)) fun _ =>
    .look fun _ => .ite (fun _ => commit_fit hx _) fun _ =>
      .seq (frame_fit (fun _ => rfl) fun _ => rfl) (lineSample_fit hx _)

/-! ### Call control -/

theorem makeCall_fit (category : Category) (restricted : Bool) :
    Keeps (Fit A B C) (makeCall category restricted x) := by
  intro s h
  refine Fits.look (.ite (fun hg => ?_) fun _ => status_fit _ s h)
  have hcas : s.casState = .idle := by
    simp only [makeCallGuard, Bool.and_eq_true, decide_eq_true_eq] at hg
    tauto
  have h1 := (h.frame (t := writeLine .seize s) rfl rfl).dialled hcas category restricted
  exact txSignal_seq_fit hx _ h (.seq (.seq (status_fit _ _ (h1.arm (by simp [openCall]) (by simp)))))

theorem ackCall_fit : Keeps (Fit A B C) (ackCall x) := by
  intro s h
  refine Fits.look (.ite (fun hg => .andThen (sendSeizeAck_fit hx h ?_) fun _ => status_fit _) fun _ => status_fit _ s h)
  simp only [ackGuard, Bool.and_eq_true, decide_eq_true_eq] at hg
  exact hg.2

theorem acceptCall_fit (mode : Mode) : Keeps (Fit A B C) (acceptCall mode x) := by
  intro s h
  refine Fits.look (.ite (fun _ => status_fit _ s h) fun hg => ?_)
  simp only [acceptGuard, Bool.not_eq_false, Bool.and_eq_true, decide_eq_true_eq, Bool.not_eq_true'] at hg
  obtain ⟨⟨⟨⟨⟨⟨_, hcall⟩, hd⟩, hcas⟩, hacc⟩, _⟩, hoff⟩ := hg
  refine .ite (fun hgb => ?_) fun hgb => .ite (fun hdtmf => ?_) fun hdtmf => ?_
  · refine .look (.ite (fun _ => status_fit _ s h) fun _ => setTone_seq_fit hx _ h (.seq (status_fit _ _ ?_)))
    refine Fit.arm ?_ (by simp [toned, hd]) (by simp)
    exact .acceptTone (s := toned (acceptTone s.cfg mode) s) ⟨hd, hcas, hcall, hgb.2⟩ hgb.1 hoff mode
  · have hm : C → s.mfState = .off := fun c => by
      obtain ⟨_, _, ⟨hg, _⟩ | ⟨_, hm⟩⟩ := listed_offered (h.listed c) hcall
      · rw [hdtmf] at hg
        cases hg
      · exact hm
    refine .seq (.seq (.andThen (acceptedNow_fit hx ?_ ⟨hd, fun c => ⟨hcas, hcall, hm c⟩⟩ fun _ => hoff) fun _ => status_fit _))
    have hsilent : B → toneState s.mfState = false := fun b => ((silent_iff s).mp (h.silent b)).2.2.2 hdtmf
    exact
      { coupled := h.coupled
        stray := h.stray
        silent := fun b => (silent_iff _).mpr ⟨.inr rfl, fun e => absurd e (by simp [hsilent b]),
          fun e => by simp [hcas] at e, fun _ => hsilent b⟩
        listed := h.listed
        delay := h.delay }
  · refine .andThen (readyToAnswer_fit hx h ⟨hd, fun c => ⟨hcas, hcall, ?_⟩⟩ fun _ => hoff) fun _ => status_fit _
    obtain ⟨_, _, ⟨hg, hm⟩ | ⟨_, hm⟩⟩ := listed_offered (h.listed c) hcall
    · rcases hm with hm | hm | hm
      · exact absurd ⟨h.live_of_tone (hx.1 c) (by rw [hm]; rfl), hg⟩ hgb
      · exact absurd hm hacc
      · exact hm
    · exact hm

theorem answerTx_fit (double : Bool) (h : Fit A B C s) (hg : answerGuard s = true) : Fits A B C (answerTx double x) s := by
  have hd : s.direction = .backward := by
    simp only [answerGuard, Bool.and_eq_true, decide_eq_true_eq] at hg
    exact hg.1.1.2
  refine txSignal_seq_fit hx _ h (.seq (.seq (.seq (.seq (.upd ?_)))))
  have hoff : isArmed .answerDelay (cancel .answerDelay (writeLine .answer s)) = false := by simp [isArmed_cancel]
  cases double with
  | false =>
    exact h.answeredBackward hg (c := .answerTxd) (by simp) (cancel_direction ..) (cancel_mfGroup ..) rfl rfl rfl rfl
      fun _ => hoff
  | true =>
    have h1 : Fit A B C { mfRelease (cancel .answerDelay (writeLine .answer s)) with
        mfState := .off, casState := .executingDoubleAnswer, callState := .answered, answered := true } :=
      h.answeredBackward hg (c := .executingDoubleAnswer) (by simp) (by simp) (by simp) rfl rfl rfl rfl fun _ => hoff
    exact (h1.arm (by simp [hd]) (u := .doubleAnswer) (by simp)).frame (by simp [vectorOf, answerSent])
      (by simp [answerSent, arm_eq])

theorem guardedAnswer_fit (double : Bool) : Keeps (Fit A B C) (guardedAnswer double x) := fun s h =>
  Fits.look (.ite (fun hg => .andThen (answerTx_fit hx double h hg) fun _ => status_fit _) fun _ => status_fit _ s h)

theorem answerCall_fit : Keeps (Fit A B C) (answerCall x) := .look fun _ => guardedAnswer_fit hx _

theorem disconnectByTone_fit (cause : Cause) (h : Fit A B C s) (hd : s.direction = .backward)
    (hdue : causeToneDue cause s = true) : Fits A B C (disconnectByTone cause x) s := by
  simp only [causeToneDue, Bool.and_eq_true, decide_eq_true_eq] at hdue
  obtain ⟨⟨⟨⟨_, hl⟩, hg⟩, hm⟩, _⟩ := hdue
  have h1 : Fit A B C (toned (causeTone s.cfg cause) s) := h.tone fun _ => .inl hl
  exact .look (setTone_seq_fit hx _ h (.upd ((h1.disconnectTone hd hm hg).arm (by simp [toned, hd]) (by simp))))

omit hx in
theorem delay_off_of_cancelCallTimers (s : State) : isArmed .answerDelay (cancelCallTimers s) = false := by
  simp [isArmed, cancelCallTimers_eq, callTimers, withoutTimers, Timer.index, timerBit]

theorem disconnectByLine_fit (cause : Cause) (h : Fit A B C s) (hd : s.direction = .backward) :
    Fits A B C (disconnectByLine cause x) s := by
  refine .look (txSignal_seq_fit hx _ h (.seq (.seq (.upd ?_))))
  refine h.clearedBackward hd (c := .clearBackTxd) (by simp) (by simp) (by simp) rfl rfl rfl (fun _ => .inr rfl)
    fun _ => delay_off_of_cancelCallTimers _

theorem clearForward_fit (h : Fit A B C s) (hd : s.direction = .forward) : Fits A B C (clearForward x) s := by
  refine txSignal_seq_fit hx _ h (.seq (.seq (.upd (.arm ?_ (by simp [hd]) (by simp)))))
  refine h.clearedForward hd (c := .clearForwardTxd) (by simp) (by simp) (by simp) rfl rfl rfl (fun _ => .inr rfl)
    fun _ => delay_off_of_cancelCallTimers _

omit hx in
theorem thenOk_fit {m : Act Unit} (h : Fits A B C m s) : Fits A B C (thenOk m) s := .andThen h fun _ => status_fit _

theorem disconnectCall_fit (cause : Cause) : Keeps (Fit A B C) (disconnectCall cause x) := by
  intro s h
  refine Fits.look (.ite (fun _ => status_fit _ s h) fun _ => .ite (fun _ => status_fit _ s h) fun _ =>
    .ite (fun _ => thenOk_fit (endCall_fit hx s h)) fun _ => ?_)
  cases hd : s.direction with
  | backward =>
    exact thenOk_fit (.look (.ite (fun hdue => disconnectByTone_fit hx cause h hd hdue) fun _ =>
      disconnectByLine_fit hx cause h hd))
  | forward =>
    exact thenOk_fit (.look (.ite (fun _ => localClearForward_fit hx h) fun _ => clearForward_fit hx h hd))
  | stopped | unassigned => exact status_fit _ s h

theorem setIdle_fit : Keeps (Fit A B C) (setIdle x) :=
  .seq (txSignal_fit hx _) (.seq (.upd fun s _ => .resetBaseline s) (status_fit _))

theorem setBlocked_fit : Keeps (Fit A B C) (setBlocked x) := fun _ h =>
  txSignal_seq_fit hx _ h (.seq (.seq (status_fit _ _ (.blocked _))))

omit hx in
/-- The freeze of an alarm keeps the vector, with no timer left (R296). -/
theorem Fit.freeze (h : Fit A B C s) : Fit A B C (Machine.freeze s) := by
  have h0 : Fit A B C { s with alarm := true } := h.frame rfl rfl
  have h1 : Fit A B C (cancelAll { s with alarm := true }) := by
    have h2 := (h0.cancelEach callTimers).cancel .casPersistenceCheck
    exact h2.frame rfl rfl
  unfold Machine.freeze muteTone
  split
  · exact h1
  · exact h1.tone fun _ => .inr rfl

theorem alarm_fit (raised : Bool) : Keeps (Fit A B C) (alarm raised x) := by
  cases raised with
  | true =>
    exact .look fun _ => .ite (fun _ => status_fit _) fun _ => .seq (.upd fun _ h => h.freeze) (status_fit _)
  | false =>
    exact .look fun _ => .ite (fun _ => .bind (getLine_fit hx) fun raw =>
      .seq (frame_fit (fun _ => rfl) fun _ => rfl) (.seq (.look fun _ => .onlyIf (errorPath_fit hx _))
        (.seq (lineSample_fit hx raw) (status_fit _)))) fun _ => status_fit _

end Rules
end Sys2Proof.Machine
end

section
/-! PROOFS. Every operation and every step keeps `Fit`, and what that gives: the coupled state vector and its rows, no stray
timer with no call, and a silent released engine (spec/10_state.md R50, R54, spec/44_lifecycle_overlay.md R310, R313). -/

namespace Sys2Proof.Machine

section Operations
variable {A B C : Prop} {s t : State}

theorem stageClr_fit (x : Ctx) : Keeps (Fit A B C) (stageClr x) :=
  .seq (frame_fit (fun _ => rfl) fun _ => rfl) (status_fit _)

theorem stageAni_fit (x : Ctx) (d : Digit) : Keeps (Fit A B C) (stageAni d x) :=
  .look fun _ => .ite (fun _ => status_fit _) fun _ => .seq (frame_fit (fun _ => rfl) fun _ => rfl) (status_fit _)

theorem stageDnis_fit (x : Ctx) (d : Digit) : Keeps (Fit A B C) (stageDnis d x) :=
  .look fun _ => .ite (fun _ => status_fit _) fun _ => .seq (frame_fit (fun _ => rfl) fun _ => rfl) (status_fit _)

theorem ruleOf_fit {x : Ctx} (hx : NestedFit A B C x) (i : Instr) : Keeps (Fit A B C) (ruleOf i x) := by
  cases i with
  | line _ => exact lineOp_fit hx
  | toneOn tone _ => exact toneOn_fit hx tone
  | toneOff _ => exact toneOff_fit hx
  | dtmfDigit digit _ => exact dtmfDigit_fit hx digit
  | timerExpSeize _ => exact plainTimerExp_fit _ (expireSeize_fit hx)
  | timerExpSeizePersist _ => exact plainTimerExp_fit _ (expireSeizePersist_fit hx)
  | timerExpAnswer _ => exact plainTimerExp_fit _ (expireAnswer_fit hx)
  | timerExpAnswerDelay _ => exact timerExp_answerDelay_fit hx
  | timerExpDoubleAnswer _ => exact plainTimerExp_fit _ (expireDoubleAnswer_fit hx)
  | timerExpSetCallDown _ => exact plainTimerExp_fit _ (endCall_fit hx)
  | timerExpMeteringPulse _ => exact plainTimerExp_fit _ (expireMeteringPulse_fit hx)
  | timerExpMfBackCycle _ => exact plainTimerExp_fit _ (expireMfBackCycle_fit hx)
  | timerExpMfBackResumeCycle _ => exact timerExp_resume_fit hx
  | timerExpMfFwdSafety _ => exact plainTimerExp_fit _ (protocolError_fit hx _)
  | timerExpDtmfStartDial _ => exact plainTimerExp_fit _ (expireDtmfStartDial_fit hx)
  | timerExpCasPersistenceCheck _ => exact plainTimerExp_fit _ (expireCasPersistenceCheck_fit hx)
  | makeCall category restricted _ => exact makeCall_fit hx category restricted
  | acceptCall mode _ => exact acceptCall_fit hx mode
  | answerCall _ => exact answerCall_fit hx
  | answerCallMode double _ => exact guardedAnswer_fit hx double
  | disconnectCall cause _ => exact disconnectCall_fit hx cause
  | ackCall _ => exact ackCall_fit hx
  | setIdle _ => exact setIdle_fit hx
  | setBlocked _ => exact setBlocked_fit hx
  | alarm raised _ => exact alarm_fit hx raised
  | stageClr _ => exact stageClr_fit x
  | stageAni digit _ => exact stageAni_fit x digit
  | stageDnis digit _ => exact stageDnis_fit x digit

/-- Every level of re-entry keeps it, by induction on the levels that may still be entered (R316). -/
theorem reenter_fit (hCB : C → B) (env : Env) (n : Nat) : NestedFit A B C { env := env, reenter := reenter env n } := by
  induction n with
  | zero => exact ⟨hCB, fun _ => .pure _⟩
  | succ n ih =>
    refine ⟨hCB, fun w => ?_⟩
    show Keeps _ (nestedWord _ w)
    unfold nestedWord
    split
    · rw [nestedOperation_eq]
      exact .ite (fun _ => ruleOf_fit ih _) fun _ => .pure _
    · exact .pure _

theorem exec_fit (hCB : C → B) {i : Instr} (hs : Fit A B C s) (h : exec i s = .next t) : Fit A B C t := by
  cases hwf : i.wf
  · rw [exec_illFormed hwf] at h
    cases h
    exact hs.frame rfl rfl
  · rw [exec_eq_runTop hwf] at h
    exact Keeps.runTop (ruleOf_fit (reenter_fit hCB _ _) i) (fun _ hs => hs.frame rfl rfl)
      (fun _ hs => hs.frame rfl rfl) hs h

theorem step_fit (hCB : C → B) (hs : Fit A B C s) (h : step s = .next t) : Fit A B C t := by
  unfold step at h
  split at h
  next w s' heq =>
    have hs' : Fit A B C s' := by
      unfold fetch at heq
      split at heq
      · cases heq
      · cases heq
        exact hs.frame rfl rfl
    unfold react at h
    split at h
    · exact exec_fit hCB hs' h
    · cases h
      exact hs'.frame rfl rfl
  next => cases h; exact hs

end Operations

/-! ### What the coupling gives -/

/-- The line states of no call. -/
theorem mem_idle_of_side {c : CasState} (hc : sideOf c = .stopped) : c ∈ [CasState.idle, .blocked, .init] := by
  cases c <;> simp [sideOf] at hc ⊢

section Coupled
variable {s : State} (h : vectorCoupled s = true)
include h

/-- R50: an answered call has an answered line state. -/
theorem coupled_answered (hcall : s.callState = .answered) :
    s.casState ∈ [CasState.answerTxd, .answerRxd, .executingDoubleAnswer] := by
  have hans := ((coupled_iff s).mp h).2.2.2.2.1 hcall
  simpa [answeredCas] using hans.1

theorem coupled_idle (hcall : s.callState = .idle) : s.casState ∈ [CasState.idle, .blocked, .init] :=
  mem_idle_of_side ((coupled_side h).trans ((coupled_stopped_iff h).mpr hcall))

theorem coupled_stopped (hcas : s.casState ∈ [CasState.idle, .blocked, .init]) : s.direction = .stopped := by
  rw [← coupled_side h]
  simp only [List.mem_cons, List.not_mem_nil, or_false] at hcas
  rcases hcas with e | e | e <;> rw [e] <;> rfl

end Coupled

/-- Settles O14: every step keeps `Fit` with the rows and without them. -/
theorem stateVectorStaysCoupled : Obligations.StateVectorStaysCoupled := by
  intro s t hs hstep
  have hfit : Fit False False False s := ⟨hs, nofun, nofun, nofun, nofun⟩
  have ht := (step_fit (fun c => c) hfit hstep).coupled
  refine ⟨ht, fun hlisted hdelay hsilent => ?_, coupled_answered ht, coupled_idle ht, coupled_stopped_iff ht⟩
  have hrows : Fit False True True s := ⟨hs, nofun, fun _ => hsilent, fun _ => hlisted, fun _ => hdelay⟩
  have ht' := step_fit (fun c => c) hrows hstep
  exact ⟨ht'.listed trivial, ht'.delay trivial⟩

/-- Settles O15. -/
theorem noTimerRunsWithoutACall : Obligations.NoTimerRunsWithoutACall := by
  rintro s t ⟨hs, hstray⟩ hstep
  have hfit : Fit True False False s := ⟨hs, fun _ => hstray, nofun, nofun, nofun⟩
  have ht := step_fit (fun c => c) hfit hstep
  exact ⟨ht.stray trivial, fun hcas _ harm => noStray_armed (ht.stray trivial) (coupled_stopped ht.coupled hcas) harm⟩

/-- Settles O16. -/
theorem releasedEngineIsSilent : Obligations.ReleasedEngineIsSilent := by
  rintro s t ⟨hs, hsilent⟩ hstep
  have hfit : Fit False True False s := ⟨hs, nofun, fun _ => hsilent, nofun, nofun⟩
  have ht := step_fit (fun c => trivial) hfit hstep
  refine ⟨ht.silent trivial, fun hl => (ht.tone_of_released trivial).resolve_left ?_⟩
  simp [hl]

end Sys2Proof.Machine
end

section
/-! PROOFS. How the run of a rule gives the outcome of its operation, the timers of a state in which some are cancelled, and the
rules of the call lifecycle as equations: what each does when the application does not re-enter. -/

namespace Sys2Proof.Machine

/-! ### The outcome of an operation -/

/-- A channel without its trace and its responses: what `ended` looks at. -/
def bare (s : State) : State := { s with out := [], resp := [] }

theorem ended_of_bare {s t : State} {acts bs : List Action} (hacts : acts = bs) (h : bare s = bare t) (st : Status) :
    ended acts st s = ended bs st t := by
  subst hacts
  show ended acts st (bare s) = ended acts st (bare t)
  rw [h]

theorem errorEnded_bare (kind : ErrorKind) (env : Env) (acts : List Action) (s : State) :
    errorEnded kind env acts (bare s) = errorEnded kind env acts s := by
  unfold errorEnded errorActions
  cases env.werr <;> rfl

theorem errorEnded_of_bare {s t : State} {acts bs : List Action} (hacts : acts = bs) (h : bare s = bare t)
    (kind : ErrorKind) (env : Env) : errorEnded kind env acts s = errorEnded kind env bs t := by
  rw [hacts, ← errorEnded_bare, h, errorEnded_bare]

section Outcome
variable {i : Instr} {s u t : State} {acts : List Action} {st : Status}

/-- An operation whose rule ends with its STATUS. -/
theorem exec_ok (hwf : i.wf = true) (h : ruleOf i (topCtx (envOf i)) (startTrace s) = .ok () (output (.status st) u))
    (hacts : u.out = acts) (ht : bare u = bare t) : exec i s = .next (ended acts st t) := by
  rw [exec_eq_runTop hwf, runTop, h]
  exact congrArg _ (ended_of_bare hacts ht st)

/-- An operation whose rule comes to a protocol error. -/
theorem exec_protocolError (hwf : i.wf = true) {kind : ErrorKind} (hu : NoReentry u)
    (h : ruleOf i (topCtx (envOf i)) (startTrace s) = protocolError (topCtx (envOf i)) kind u)
    (hacts : u.out = acts) (ht : bare u = bare t) : exec i s = .next (errorEnded kind (envOf i) acts t) := by
  rw [exec_eq_runTop hwf, runTop, h, protocolError_noReentry _ _ hu]
  exact congrArg _ (errorEnded_of_bare hacts ht kind (envOf i))

/-- An operation whose rule comes to a failed collaborator call. -/
theorem exec_ioError (hwf : i.wf = true) {what : OsError} (hu : NoReentry u)
    (h : ruleOf i (topCtx (envOf i)) (startTrace s) = ioError (topCtx (envOf i)) what u)
    (hacts : u.out = acts) (ht : bare u = bare t) :
    exec i s = .next (ended (acts ++ [.evt (.osError what)]) .ioError t) := by
  rw [exec_eq_runTop hwf, runTop, h, ioError_noReentry _ _ hu.head]
  exact congrArg _ (ended_of_bare (by rw [hacts]) ht .ioError)

end Outcome

/-- A sequence whose first piece does what another does from another state. -/
theorem bind_congr_at {α β : Type} {m m' : Act α} {f : α → Act β} {s s' : State} (h : m s = m' s') :
    (m >>= f) s = (m' >>= f) s' := by rw [bind_apply, h, ← bind_apply]

/-- A sequence whose first piece comes to a protocol error. -/
theorem bind_protocolError {α β : Type} {x : Ctx} {kind : ErrorKind} {m : Act α} {f : α → Act β} {s u : State}
    (h : m s = protocolError x kind u) : (m >>= f) s = protocolError x kind u := by
  rw [bind_congr_at h, protocolError_bind]

/-- A sequence whose first piece comes to a failed collaborator call. -/
theorem bind_ioError {α β : Type} {x : Ctx} {what : OsError} {m : Act α} {f : α → Act β} {s u : State}
    (h : m s = ioError x what u) : (m >>= f) s = ioError x what u := by
  rw [bind_congr_at h, ioError_bind]

/-! ### Cancelled timers -/

theorem withoutTimers_append (us vs : List Timer) (a : BitVec 12) :
    withoutTimers (us ++ vs) a = withoutTimers vs (withoutTimers us a) := by simp [withoutTimers]

theorem withoutTimers_getLsbD (us : List Timer) (a : BitVec 12) (t : Timer) :
    (withoutTimers us a).getLsbD t.index = (a.getLsbD t.index && !decide (t ∈ us)) := by
  induction us generalizing a with
  | nil => simp [withoutTimers]
  | cons u us ih =>
    rw [withoutTimers_cons, ih, BitVec.getLsbD_and, BitVec.getLsbD_not, timerBit_getLsbD, Bool.and_assoc]
    by_cases h : t = u <;> simp [h, timer_index_lt]

/-- The cancelled timers do not count for the others. -/
theorem cancelsOf_without {s t : State} {us ts : List Timer} (ha : t.armed = withoutTimers us s.armed)
    (hd : ∀ u ∈ ts, u ∉ us) : cancelsOf ts t = cancelsOf ts s :=
  cancelsOf_congr fun u hu => by rw [isArmed, ha, withoutTimers_getLsbD]; simp [hd u hu, isArmed]

/-- A cancelled timer is not cancelled again. -/
theorem cancelsOf_single_without {s t : State} {us : List Timer} {u : Timer} (ha : t.armed = withoutTimers us s.armed)
    (hu : u ∈ us) : cancelsOf [u] t = [] := by
  have h : isArmed u t = false := by rw [isArmed, ha, withoutTimers_getLsbD]; simp [hu]
  simp [cancelsOf, h]

theorem cancelsOf_append (ts us : List Timer) (s : State) :
    cancelsOf (ts ++ us) s = cancelsOf ts s ++ cancelsOf us s := by simp [cancelsOf]

theorem cancelsOf_armed_single {t : Timer} {s : State} (h : isArmed t s = true) : cancelsOf [t] s = [.tmrCancel t] := by
  simp [cancelsOf, h]

theorem cancelsOf_notArmed_single {t : Timer} {s : State} (h : isArmed t s = false) : cancelsOf [t] s = [] := by
  simp [cancelsOf, h]

/-- Every timer cancelled, the persistence check first. -/
theorem cancelsOf_all_committed {s t : State} (ha : t.armed = withoutTimers [.casPersistenceCheck] s.armed) :
    cancelsOf allTimers t = cancelsOf callTimers s := by
  rw [allTimers, cancelsOf_append, cancelsOf_single_without ha (by simp), List.append_nil]
  exact cancelsOf_without ha (by decide)

/-- An arm of a timer that was not among the cancelled ones. -/
theorem armActions_without {s t : State} {us : List Timer} {u : Timer} (ha : t.armed = withoutTimers us s.armed)
    (hc : t.cfg = s.cfg) (hu : u ∉ us) : armActions u t = armActions u s := by
  unfold armActions
  rw [cancelsOf_without ha (by simpa using hu), hc]

/-- `Arm` where others were cancelled before. -/
theorem arm_without {s t : State} (us : List Timer) {u : Timer} (ha : t.armed = withoutTimers us s.armed)
    (hc : t.cfg = s.cfg) (hu : u ∉ us) : arm u t =
      { t with armed := withoutTimers us s.armed ||| timerBit u, out := t.out ++ armActions u s } := by
  rw [arm_eq, armActions_without ha hc hu, ha]

/-- An arm of a timer that was just cancelled. -/
theorem armActions_cancelled {s t : State} {us : List Timer} {u : Timer} (ha : t.armed = withoutTimers us s.armed)
    (hc : t.cfg = s.cfg) (hu : u ∈ us) : armActions u t = [.tmrArm u (duration s.cfg u)] := by
  unfold armActions
  rw [cancelsOf_single_without ha hu, hc]
  rfl

/-- `Arm` of a timer that was just cancelled. -/
theorem arm_cancelled {s t : State} (us : List Timer) {u : Timer} (ha : t.armed = withoutTimers us s.armed)
    (hc : t.cfg = s.cfg) (hu : u ∈ us) : arm u t =
      { t with armed := withoutTimers us s.armed ||| timerBit u, out := t.out ++ [.tmrArm u (duration s.cfg u)] } := by
  rw [arm_eq, armActions_cancelled ha hc hu, ha]

theorem armActions_armed {s t : State} (u : Timer) (ha : t.armed = s.armed) (hc : t.cfg = s.cfg) :
    armActions u t = armActions u s := by
  unfold armActions
  rw [cancelsOf_armed _ ha, hc]

theorem armActions_notArmed {u : Timer} {s : State} (h : isArmed u s = false) :
    armActions u s = [.tmrArm u (duration s.cfg u)] := by
  unfold armActions
  rw [cancelsOf_notArmed_single h]
  rfl

/-! ### Events without re-entry -/

theorem NoReentry.told {ev : Event} {s : State} (h : NoReentry s) : NoReentry (told ev s) := h.of_tail rfl

theorem notify_told (x : Ctx) (ev : Event) {s : State} (h : NoReentry s) : notify x ev s = .ok () (told ev s) :=
  notify_noReentry x ev h.head

theorem NoReentry.startTrace {s : State} (h : NoReentry s) : NoReentry (startTrace s) := h.of_resp rfl

end Sys2Proof.Machine
end

section
/-! PROOFS. The rules of the call lifecycle as equations (spec/40_line_events.md, spec/42_timer_events.md R262): the registers
and the trace each leaves, when the application does not re-enter and the line can be written. -/

namespace Sys2Proof.Machine

variable {x : Ctx} {s : State}

theorem txSignal_sent (sig : Signal) (hw : x.env.werr = false) (s : State) :
    txSignal x sig s = .ok () { transmitted sig s with out := s.out ++ lineActions s.cfg sig } := by
  rw [txSignal_ok x sig s hw, writeLine_eq]

/-- A line that cannot be written (R134, R336). -/
theorem txSignal_werr (sig : Signal) (hw : x.env.werr = true) : txSignal x sig = ioError x .lineWrite := if_pos hw

theorem emitGuarded_told (x : Ctx) (ev : Event) {s : State} (hr : NoReentry s) :
    emitGuarded x ev s = .ok (some (s.resp.headD 0)) (told ev s) := emitGuarded_noReentry x ev hr.head

theorem disconnectTimers_eq (s : State) : cancelEach disconnectTimers s =
    { s with armed := withoutTimers disconnectTimers s.armed, out := s.out ++ cancelsOf disconnectTimers s } :=
  cancelEach_eq _ (by decide) s

/-- R137. -/
theorem handleDisconnect_ok (sig : Signal) (cause : Cause) (hr : NoReentry s) : handleDisconnect x sig cause s =
    .ok () (told (.callDisconnect cause)
      { released s with
        casState := disconnectedCas sig, callState := .disconnected, armed := withoutTimers disconnectTimers s.armed
        out := s.out ++ cancelsOf disconnectTimers s ++ releaseActions s }) := by
  unfold handleDisconnect
  rw [upd_bind, upd_bind, upd_bind, disconnectTimers_eq]
  exact notify_told x _ (hr.of_resp rfl)

/-- R159. -/
theorem endCall_ok (hw : x.env.werr = false) (hr : NoReentry s) : endCall x s =
    .ok () (told .callEnd
      { baselineOf (transmitted .idle s) with out := s.out ++ lineActions s.cfg .idle ++ baselineActions s }) := by
  unfold endCall
  rw [bind_ok (txSignal_sent .idle hw s), upd_bind, resetBaseline_eq]
  exact notify_told x _ (hr.of_resp rfl)

/-- R152. -/
theorem clearForwardReceived_ok (hr : NoReentry s) : clearForwardReceived x s =
    .ok () (told (.callDisconnect .normalClearing)
      { released s with
        casState := .clearForwardRxd, callState := .disconnected, armed := 0, pendingValid := false
        out := s.out ++ cancelsOf allTimers s ++ releaseActions s }) := by
  unfold clearForwardReceived
  rw [upd_bind, upd_bind, upd_bind, cancelAll_eq]
  exact notify_told x _ (hr.of_resp rfl)

/-- R149: the callback left the snapshot as it was, and the call is answered. -/
theorem acceptThenAnswer_ok (mode : Mode) (hr : NoReentry s) : acceptThenAnswer x mode s =
    .ok () (told .callAnswered (told (.callAccepted mode)
      { s with
        casState := .answerRxd, callState := .answered, answered := true
        armed := withoutTimers [.answer] s.armed, out := s.out ++ cancelsOf [.answer] s })) := by
  unfold acceptThenAnswer
  rw [upd_bind, upd_bind, cancel_eq]
  refine (bind_ok (emitGuarded_told x _ (by exact hr))).trans ?_
  exact notify_told x _ (hr.of_tail rfl)

theorem convergeGlare_glare (hcas : s.casState = .doubleSeizure) :
    convergeGlare x s = .ok () (arm .setCallDown { s with casState := .clearForwardTxd }) :=
  see_pos (c := fun s => s.casState = .doubleSeizure) hcas

theorem convergeGlare_cleared (hcas : s.casState = .doubleSeizureClearFwdPending) :
    convergeGlare x s = endCall x s :=
  see_neg (c := fun s => s.casState = .doubleSeizure) (by simp [hcas])

/-- R155 in glare: the set-call-down timer starts. -/
theorem localClearForward_glare (hw : x.env.werr = false) (hcas : s.casState = .doubleSeizure) :
    localClearForward x s =
      .ok ()
        { transmitted .clearForward s with
          casState := .clearForwardTxd
          armed := withoutTimers [.seizePersist] s.armed ||| timerBit .setCallDown
          out := s.out ++ lineActions s.cfg .clearForward ++ cancelsOf [.seizePersist] s ++ armActions .setCallDown s } := by
  unfold localClearForward
  rw [bind_ok (txSignal_sent .clearForward hw s), upd_bind, cancel_eq]
  refine (convergeGlare_glare (by exact hcas)).trans ?_
  exact congrArg _ (arm_without (s := s) [.seizePersist] (by rfl) (by rfl) (by decide))

/-- R155 when the peer cleared first: the call ends. -/
theorem localClearForward_cleared (hw : x.env.werr = false) (hcas : s.casState = .doubleSeizureClearFwdPending)
    (hr : NoReentry s) : localClearForward x s =
      .ok () (told .callEnd
        { baselineOf (transmitted .idle s) with
          out := s.out ++ lineActions s.cfg .clearForward ++ cancelsOf [.seizePersist] s ++ lineActions s.cfg .idle ++
            baselineActions (fired .seizePersist s) }) := by
  unfold localClearForward
  rw [bind_ok (txSignal_sent .clearForward hw s), upd_bind, cancel_eq]
  refine (convergeGlare_cleared (by exact hcas)).trans ?_
  exact endCall_ok hw (by exact hr)

/-- R262. -/
theorem acceptedNow_ok (hr : NoReentry s) :
    acceptedNow x s = .ok () (told (.callAccepted s.acceptMode) { s with callState := .accepted }) := by
  unfold acceptedNow
  rw [upd_bind, see_bind]
  exact notify_told x _ (hr.of_resp rfl)

theorem readyToAnswer_now (hd : duration s.cfg .answerDelay = 0) (hr : NoReentry s) :
    readyToAnswer x s = .ok () (told (.callAccepted s.acceptMode) { s with callState := .accepted }) := by
  unfold readyToAnswer
  rw [see_bind, if_pos hd, acceptedNow_ok hr]

theorem readyToAnswer_later (hd : duration s.cfg .answerDelay ≠ 0) : readyToAnswer x s =
    .ok () { s with armed := s.armed ||| timerBit .answerDelay, out := s.out ++ armActions .answerDelay s } := by
  unfold readyToAnswer
  rw [see_bind, if_neg hd, upd_apply, arm_eq]

/-- R144. -/
theorem sendSeizeAck_ok (hw : x.env.werr = false) : sendSeizeAck x s =
    .ok ()
      { transmitted .seizeAck s with
        casState := .seizeAckTxd, mfState := .seizeAckTxd, out := s.out ++ lineActions s.cfg .seizeAck } := by
  unfold sendSeizeAck
  rw [bind_ok (txSignal_sent .seizeAck hw s)]
  rfl

end Sys2Proof.Machine
end

section
/-! PROOFS. The operation LINE (spec/40_line_events.md): the debounce, the commit, and the table row by row. -/

namespace Sys2Proof.Machine

/-! ### The debounce (R131) -/

/-- LINE with the alarm off and the line readable takes the sample (R130). -/
theorem lineOp_sampled (x : Ctx) {s : State} (ha : s.alarm = false) (hl : x.env.lerr = false) :
    lineOp x s = (lineSample x x.env.line >>= fun _ => status .ok) s := by
  unfold lineOp
  rw [see_bind, if_neg (by simp [ha])]
  unfold lineChanged
  rw [bind_ok (getLine_ok x s hl)]

theorem lineSample_reverted (x : Ctx) {raw : LineCode} {s : State} (h : s.rxValid = true ∧ maskCode s.cfg raw = s.rxCode) :
    lineSample x raw s = .ok () (lineReverted s) := by
  unfold lineSample
  rw [see_bind, if_pos h]
  rfl

theorem debounce_iff (c : Cfg) : debounce c = true ↔ duration c .casPersistenceCheck ≠ 0 := by simp [debounce]

theorem lineSample_waits (x : Ctx) {raw : LineCode} {s : State} (h : ¬ (s.rxValid = true ∧ maskCode s.cfg raw = s.rxCode))
    (hd : duration s.cfg .casPersistenceCheck ≠ 0) (hp : s.pendingValid = true ∧ s.pendingCode = maskCode s.cfg raw) :
    lineSample x raw s = .ok () s := by
  unfold lineSample
  rw [see_bind, if_neg h, if_pos ((debounce_iff _).mpr hd), if_pos hp]
  rfl

theorem lineSample_debounced (x : Ctx) {raw : LineCode} {s : State}
    (h : ¬ (s.rxValid = true ∧ maskCode s.cfg raw = s.rxCode)) (hd : duration s.cfg .casPersistenceCheck ≠ 0)
    (hp : ¬ (s.pendingValid = true ∧ s.pendingCode = maskCode s.cfg raw)) :
    lineSample x raw s = .ok () (startDebounce (maskCode s.cfg raw) s) := by
  unfold lineSample
  rw [see_bind, if_neg h, if_pos ((debounce_iff _).mpr hd), if_neg hp]
  rfl

theorem lineSample_commits (x : Ctx) {raw : LineCode} {s : State}
    (h : ¬ (s.rxValid = true ∧ maskCode s.cfg raw = s.rxCode)) (hd : debounce s.cfg = false) :
    lineSample x raw s = commit x raw s := by
  unfold lineSample
  rw [see_bind, if_neg h, if_neg (by simp [hd])]

/-- A sample of the committed code forgets a pending one (R131). -/
theorem lineReverted_eq {s : State} (h : s.pendingValid = true) : lineReverted s =
    { s with pendingValid := false, armed := withoutTimers [.casPersistenceCheck] s.armed,
             out := s.out ++ cancelsOf [.casPersistenceCheck] s } := by
  unfold lineReverted
  rw [if_pos h, cancel_eq]
  rfl

theorem lineReverted_nothing {s : State} (h : s.pendingValid = false) : lineReverted s = s := by
  unfold lineReverted
  rw [if_neg (by simp [h])]

theorem startDebounce_eq (r : LineCode) (s : State) : startDebounce r s =
    { s with pendingValid := true, pendingCode := r, armed := s.armed ||| timerBit .casPersistenceCheck,
             out := s.out ++ armActions .casPersistenceCheck s } := by
  unfold startDebounce
  rw [arm_eq]
  rfl

section Debounce
variable {env : Env} {s u : State}

/-- LINE, from what its sample does. -/
theorem exec_line (ha : s.alarm = false) (hl : env.lerr = false)
    (h : lineSample (topCtx env) env.line (startTrace s) = .ok () u) :
    exec (.line env) s = .next (ended u.out .ok u) :=
  exec_ok (i := .line env) rfl ((lineOp_sampled (topCtx env) (s := startTrace s) ha hl).trans (bind_ok h)) rfl rfl

/-- A bit set and cleared again, if it was clear. -/
theorem withoutTimers_or_self {t : Timer} (h : isArmed t s = false) :
    withoutTimers [t] (s.armed ||| timerBit t) = s.armed := by
  rw [withoutTimers_single]
  apply BitVec.eq_of_getLsbD_eq
  intro j hj
  rw [BitVec.getLsbD_and, BitVec.getLsbD_or, BitVec.getLsbD_not, timerBit_getLsbD_of_lt t hj]
  by_cases e : j = t.index
  · rw [isArmed] at h
    rw [e, h]
    simp
  · simp [hj, e]

end Debounce

@[simp] theorem eventsOf_status (st : Status) : eventsOf [.status st] = [] := rfl

/-- Settles O23. -/
theorem lineIsDebounced : Obligations.LineIsDebounced := by
  refine ⟨?_, ?_⟩
  · rintro env r s ha hl rfl
    refine ⟨fun h hp => ?_, fun h hp => ?_, fun h hd hp => ?_, fun h hd hp => ?_⟩
    · rw [exec_line ha hl (lineSample_reverted _ h), lineReverted_nothing (s := startTrace s) hp]
      rfl
    · rw [exec_line ha hl (lineSample_reverted _ h), lineReverted_eq (s := startTrace s) hp]
      rfl
    · rw [exec_line ha hl (lineSample_waits _ h hd hp)]
      rfl
    · rw [exec_line ha hl (lineSample_debounced _ h hd hp), startDebounce_eq]
      rfl
  · intro env env' s ha hl hl' hd hv hp harm hne heq
    have hfirst : exec (.line env) s = _ := exec_line ha hl
      (lineSample_debounced (topCtx env) (s := startTrace s) (fun e => hne e.2) hd (by simp [hp]))
    rw [startDebounce_eq] at hfirst
    have hsecond := exec_line (s := ended (armActions .casPersistenceCheck s) .ok
      { s with pendingValid := true, pendingCode := maskCode s.cfg env.line
               armed := s.armed ||| timerBit .casPersistenceCheck }) ha hl' (lineSample_reverted (topCtx env') ⟨hv, heq⟩)
    rw [lineReverted_eq rfl] at hsecond
    refine ⟨_, _, hfirst, hsecond, by simp [ended, startTrace], by simp [ended, startTrace], rfl, ?_⟩
    have harmed := withoutTimers_or_self harm
    show ended _ _ { s with
      pendingValid := false, pendingCode := _
      armed := withoutTimers [.casPersistenceCheck] (s.armed ||| timerBit .casPersistenceCheck) } = _
    rw [harmed]
    simp [ended, hp]

/-! ### The commit (R133) -/

/-- The channel after a commit, before the table row: the registers and the trace (R133). -/
def seen (raw : LineCode) (sig : Option Signal) (s : State) : State :=
  { committed raw sig s with out := s.out ++ commitActions raw sig s }

theorem recordSample_eq (raw : LineCode) (s : State) :
    recordSample raw s = seen raw (decodeSignal s.cfg (maskCode s.cfg raw) s.casState) s := by
  unfold recordSample seen commitActions
  rw [cancel_eq, ← List.append_assoc]
  rfl

/-- A signal is decoded only in a valid state (R136, R158). -/
theorem valid_of_decoded {c : Cfg} {r : LineCode} {k : CasState} {sig : Signal} (h : decodeSignal c r k = some sig) :
    casInvalid k = false := by
  cases k <;> first | rfl | cases h

section Commit
variable {x : Ctx} {env : Env} {r : LineCode} {s t u : State} {sig : Signal} {acts : List Action}

theorem commit_row {raw : LineCode} (hsig : decodeSignal s.cfg (maskCode s.cfg raw) s.casState = some sig) :
    commit x raw s = act x (maskCode s.cfg raw) sig s.casState (seen raw (some sig) s) := by
  unfold commit runTable
  rw [upd_bind, recordSample_eq, hsig, see_bind]
  refine (congrFun (if_neg ?_) _).trans rfl
  rw [show (seen raw (some sig) s).casState = s.casState from rfl, valid_of_decoded hsig]
  simp

theorem commit_unadmitted {raw : LineCode} (hsig : decodeSignal s.cfg (maskCode s.cfg raw) s.casState = none) :
    commit x raw s =
      protocolError x (if casInvalid s.casState then .invalidR2State else .invalidCasBits) (seen raw none s) := by
  unfold commit runTable
  rw [upd_bind, recordSample_eq, hsig, see_bind]
  cases hc : casInvalid s.casState with
  | true => exact congrFun (if_pos hc) _
  | false => exact (congrFun (if_neg (by rw [show (seen raw none s).casState = s.casState from rfl, hc]; simp)) _).trans rfl

theorem lineOp_commits (hc : LineCommits env r s) :
    lineOp (topCtx env) (startTrace s) = (commit (topCtx env) env.line >>= fun _ => status .ok) (startTrace s) := by
  obtain ⟨ha, hl, rfl, hne, hd⟩ := hc
  exact (lineOp_sampled (topCtx env) (s := startTrace s) ha hl).trans
    (bind_congr_at (lineSample_commits _ (s := startTrace s) hne hd))

theorem commit_of_lineCommits (hc : LineCommits env r s) (hsig : decodeSignal s.cfg r s.casState = some sig) :
    commit (topCtx env) env.line (startTrace s) =
      act (topCtx env) r sig s.casState (seen env.line (some sig) (startTrace s)) := by
  obtain ⟨_, _, rfl, _⟩ := hc
  exact commit_row (s := startTrace s) hsig

/-- LINE, from what the row of the table does with the committed sample. -/
theorem exec_line_row (hc : LineCommits env r s) (hsig : decodeSignal s.cfg r s.casState = some sig)
    (h : act (topCtx env) r sig s.casState (seen env.line (some sig) (startTrace s)) = .ok () u)
    (hacts : u.out = acts) (ht : bare u = bare t) : exec (.line env) s = .next (ended acts .ok t) :=
  exec_ok (i := .line env) rfl ((lineOp_commits hc).trans (bind_ok ((commit_of_lineCommits hc hsig).trans h))) hacts ht

/-- LINE, where the row comes to a protocol error. -/
theorem exec_line_protocolError (hc : LineCommits env r s) (hsig : decodeSignal s.cfg r s.casState = some sig)
    {kind : ErrorKind} (hu : NoReentry u)
    (h : act (topCtx env) r sig s.casState (seen env.line (some sig) (startTrace s)) =
      protocolError (topCtx env) kind u)
    (hacts : u.out = acts) (ht : bare u = bare t) : exec (.line env) s = .next (errorEnded kind env acts t) :=
  exec_protocolError (i := .line env) rfl hu
    ((lineOp_commits hc).trans (bind_protocolError ((commit_of_lineCommits hc hsig).trans h))) hacts ht

/-- LINE, where the row comes to a failed collaborator call. -/
theorem exec_line_ioError (hc : LineCommits env r s) (hsig : decodeSignal s.cfg r s.casState = some sig)
    {what : OsError} (hu : NoReentry u)
    (h : act (topCtx env) r sig s.casState (seen env.line (some sig) (startTrace s)) = ioError (topCtx env) what u)
    (hacts : u.out = acts) (ht : bare u = bare t) :
    exec (.line env) s = .next (ended (acts ++ [.evt (.osError what)]) .ioError t) :=
  exec_ioError (i := .line env) rfl hu
    ((lineOp_commits hc).trans (bind_ioError ((commit_of_lineCommits hc hsig).trans h))) hacts ht

end Commit

/-- Settles O25. -/
theorem unadmittedCodeIsAProtocolError : Obligations.UnadmittedCodeIsAProtocolError := by
  intro env r s hc hr hsig
  have key : exec (.line env) s = .next (errorEnded
      (if casInvalid s.casState then .invalidR2State else .invalidCasBits) env (commitActions env.line none s)
      (committed env.line none s)) := by
    refine exec_protocolError (i := .line env) (u := seen env.line none (startTrace s)) rfl (by exact hr)
      ((lineOp_commits hc).trans (bind_protocolError ?_)) rfl rfl
    obtain ⟨_, _, rfl, _⟩ := hc
    exact commit_unadmitted (s := startTrace s) hsig
  exact ⟨fun hv => by simpa [hv] using key, fun hv => by simpa [hv] using key⟩

/-! ### No call (R138 to R140) -/

theorem decodeSignal_idle {c : Cfg} {r : LineCode} {k : CasState} (hk : k ∈ [CasState.init, .idle, .blocked])
    (h : r = code c .idle) : decodeSignal c r k = some .idle := by
  simp only [List.mem_cons, List.not_mem_nil, or_false] at hk
  rcases hk with rfl | rfl | rfl <;> simp [decodeSignal, decodeWhileIdle, decodeWhileBlocked, h]

theorem decodeSignal_block {c : Cfg} {r : LineCode} {k : CasState} (hk : k ∈ [CasState.init, .idle, .blocked])
    (hi : r ≠ code c .idle) (h : r = code c .block) : decodeSignal c r k = some .block := by
  simp only [List.mem_cons, List.not_mem_nil, or_false] at hk
  subst h
  rcases hk with rfl | rfl | rfl <;> simp [decodeSignal, decodeWhileIdle, decodeWhileBlocked, hi]

theorem decodeSignal_seize {c : Cfg} {r : LineCode} {k : CasState} (hk : k ∈ [CasState.init, .idle])
    (hi : r ≠ code c .idle) (hb : r ≠ code c .block) (h : r = code c .seize) : decodeSignal c r k = some .seize := by
  simp only [List.mem_cons, List.not_mem_nil, or_false] at hk
  subst h
  rcases hk with rfl | rfl <;> simp [decodeSignal, decodeWhileIdle, hi, hb]

section Incoming
variable {x : Ctx} {s : State}

theorem act_idle_event {k : CasState} (hk : k ∈ [CasState.init, .idle, .blocked]) (r : LineCode) :
    act x r .idle k = notify x .lineIdle := by
  simp only [List.mem_cons, List.not_mem_nil, or_false] at hk
  rcases hk with rfl | rfl | rfl <;> rfl

theorem act_block_event {k : CasState} (hk : k ∈ [CasState.init, .idle, .blocked]) (r : LineCode) :
    act x r .block k = notify x .lineBlocked := by
  simp only [List.mem_cons, List.not_mem_nil, or_false] at hk
  rcases hk with rfl | rfl | rfl <;> rfl

theorem act_seize_incoming {k : CasState} (hk : k ∈ [CasState.init, .idle]) (r : LineCode) :
    act x r .seize k = incomingCall x := by
  simp only [List.mem_cons, List.not_mem_nil, or_false] at hk
  rcases hk with rfl | rfl <;> rfl

/-- The detector of an incoming call, if the variant detects DTMF (R140). -/
def detecting (s : State) : State := if s.cfg.detectDtmf then acquireDtmfRx s else s

theorem detecting_eq (s : State) : detecting s =
    { s with
      dtmfRxLive := if s.cfg.detectDtmf then true else s.dtmfRxLive
      out := s.out ++ (if s.cfg.detectDtmf then [.dtmfRxInit] else []) } := by
  unfold detecting
  cases h : s.cfg.detectDtmf
  · simp
  · rfl

theorem detecting_resp (s : State) : (detecting s).resp = s.resp := by rw [detecting_eq]

/-- The start of an incoming call (R140): the engines and the registers. -/
theorem incomingCall_started (hi : x.env.ierr = false) : incomingCall x s =
    (autoSeizeAck x >>= fun _ => notify x .callInit) (incoming (acquireMf (detecting s))) := by
  have hdet : startDetector x s = .ok () (detecting s) := by
    unfold startDetector detecting dtmfRxInit
    rw [see_bind]
    cases s.cfg.detectDtmf <;> simp [hi]
  unfold incomingCall mfInit
  rw [bind_ok hdet, if_neg (by simp [hi]), upd_bind, upd_bind]
  rfl

theorem incomingCall_failed (hi : x.env.ierr = true) : incomingCall x s = protocolError x .internalError s := by
  unfold incomingCall startDetector dtmfRxInit mfInit
  rw [bind_assoc, see_bind, if_pos hi]
  cases s.cfg.detectDtmf with
  | true => exact bind_protocolError rfl
  | false =>
    rw [onlyIf_false, pure_bind]
    exact bind_protocolError (congrFun (if_pos hi) s)

theorem incomingCall_manual (hi : x.env.ierr = false) (hauto : s.cfg.autoSeizeAck = false) (hr : NoReentry s) :
    incomingCall x s = .ok () (told .callInit (incoming (acquireMf (detecting s)))) := by
  rw [incomingCall_started hi, detecting_eq]
  refine (bind_ok (s' := incoming (acquireMf _)) (a := ()) ?_).trans (notify_told x _ (by exact hr))
  unfold autoSeizeAck
  rw [see_bind]
  exact congrFun (congrArg (onlyIf · _) hauto) _

theorem incomingCall_auto (hi : x.env.ierr = false) (hauto : s.cfg.autoSeizeAck = true) :
    incomingCall x s = (sendSeizeAck x >>= fun _ => notify x .callInit) (incoming (acquireMf (detecting s))) := by
  rw [incomingCall_started hi, detecting_eq]
  refine bind_congr_at ?_
  unfold autoSeizeAck
  rw [see_bind]
  exact congrFun (congrArg (onlyIf · _) hauto) _

end Incoming

/-- Settles O24. -/
theorem lineWithoutACall : Obligations.LineWithoutACall := by
  intro env r s seen' acked hc hr
  refine ⟨fun hk hcode => ?_, fun hk hi hcode => ?_, fun hk hi hb hcode => ⟨fun hie => ?_, fun hie hauto hw => ?_,
    fun hie hauto => ?_⟩⟩
  · exact exec_line_row hc (decodeSignal_idle hk hcode)
      ((congrFun (act_idle_event hk r) _).trans (notify_told _ _ (by exact hr))) (by rfl) (by rfl)
  · exact exec_line_row hc (decodeSignal_block hk hi hcode)
      ((congrFun (act_block_event hk r) _).trans (notify_told _ _ (by exact hr))) (by rfl) (by rfl)
  · exact exec_line_protocolError hc (decodeSignal_seize hk hi hb hcode) (by exact hr)
      ((congrFun (act_seize_incoming hk r) _).trans (incomingCall_failed (by exact hie))) (by rfl) (by rfl)
  · refine exec_line_row hc (decodeSignal_seize hk hi hb hcode)
      ((congrFun (act_seize_incoming hk r) _).trans ((incomingCall_auto (by exact hie) (by exact hauto)).trans
        ((bind_ok (sendSeizeAck_ok (by exact hw))).trans (notify_told _ _ (NoReentry.of_resp hr (by exact detecting_resp _)))))) ?_ ?_
    · rw [detecting_eq]; rfl
    · rw [detecting_eq]; rfl
  · refine exec_line_row hc (decodeSignal_seize hk hi hb hcode)
      ((congrFun (act_seize_incoming hk r) _).trans (incomingCall_manual (by exact hie) (by exact hauto) (by exact hr))) ?_ ?_
    · rw [detecting_eq]
      simp [told, incoming, seen]
      rfl
    · rw [detecting_eq]; rfl

end Sys2Proof.Machine
end

section
/-! PROOFS. The outcome of an operation whose rule ends with STATUS Ok, and the two halves of the tone machine
(spec/41_tone_events.md) as equations: the next request, what falls due, and what is sent. -/

namespace Sys2Proof.Machine

/-! ### The outcome of a rule that ends with STATUS Ok -/

/-- An operation that comes to `m` in `s` and then to STATUS Ok leaves `r`, wherever it ends. -/
def Yields (m : Act Unit) (s r : State) : Prop := outcomeOf ((m >>= fun _ => status .ok) s) = .next r

/-- A function of the state that reads neither the trace nor the responses. -/
theorem eq_of_bare {α : Type} {F : State → α} (hF : ∀ s, F (bare s) = F s) {s t : State} (h : bare s = bare t) :
    F s = F t := by
  rw [← hF, h, hF]

section Yields
variable {m n : Act Unit} {s t u r : State} {x : Ctx}

theorem Yields.ok (h : m s = .ok () u) : Yields m s (ended u.out .ok u) := by
  rw [Yields, bind_ok h]
  rfl

theorem Yields.protocolError {kind : ErrorKind} (h : m s = protocolError x kind u) (hr : NoReentry u) :
    Yields m s (errorEnded kind x.env u.out u) := by
  rw [Yields, bind_protocolError h, protocolError_noReentry _ _ hr]
  rfl

theorem Yields.ioError {what : OsError} (h : m s = ioError x what u) (hr : NoReentry u) :
    Yields m s (ended (u.out ++ [.evt (.osError what)]) .ioError u) := by
  rw [Yields, bind_ioError h, ioError_noReentry _ _ hr.head]
  rfl

theorem Yields.of_eq (h : m s = n u) (hy : Yields n u r) : Yields m s r := by
  rw [Yields, bind_congr_at h]
  exact hy

theorem Yields.to {r' : State} (hy : Yields m s r) (e : r = r') : Yields m s r' := e ▸ hy

theorem exec_yields {i : Instr} (hwf : i.wf = true)
    (h : ruleOf i (topCtx (envOf i)) (startTrace s) = (m >>= fun _ => status .ok) u) (hy : Yields m u r) :
    exec i s = .next r := by
  rw [exec_eq_runTop hwf, runTop, h]
  exact hy

end Yields

/-! ### The next request (R187, R188) -/

section Requests
variable {x : Ctx} {s : State}

/-- The timer of a request (R187). -/
def requestTimer (pulse : Bool) : Timer := if pulse then .mfBackResumeCycle else .mfBackCycle

/-- The channel after a request (R187). -/
def requested (tone : Tone) (st : MfState) (pulse : Bool) (s : State) : State :=
  { s with
    mfWriteTone := tone, mfState := st, armed := s.armed ||| timerBit (requestTimer pulse)
    out := s.out ++ toneActions tone s ++ armActions (requestTimer pulse) s }

/-- A request whose tone can be put on (R187). -/
theorem request_ok {tone : Tone} (st : MfState) (pulse : Bool) (h0 : tone ≠ 0)
    (hw : ¬ (x.env.werr = true ∧ tone ≠ s.mfWriteTone)) :
    request x tone st pulse s = .ok () (requested tone st pulse s) := by
  have hset : x.env.werr = false ∨ tone = 0 ∨ tone = s.mfWriteTone := by
    cases hx : x.env.werr
    · exact .inl rfl
    · exact .inr (.inr (by simpa [hx] using hw))
  unfold request
  rw [if_neg h0, bind_ok (setTone_toned x tone s hset), upd_bind, upd_apply, arm_eq]
  rfl

/-- A request tone whose buffer cannot be flushed (R183). -/
theorem request_failed {tone : Tone} (st : MfState) (pulse : Bool) (h0 : tone ≠ 0) (hw : x.env.werr = true)
    (hne : tone ≠ s.mfWriteTone) : request x tone st pulse s = ioError x .toneFlush s :=
  (congrFun (if_neg h0) s).trans (bind_ioError (setTone_failed x tone s hw h0 hne))

/-- A request, and a change of the group after it. -/
theorem request_yields (hr : NoReentry s) (tone : Tone) (st : MfState) (pulse : Bool) {k : Unit → Act Unit} {g : MfGroup}
    (mode : Mode)
    (hk : ∀ u, u.mfGroup = s.mfGroup → k () u = .ok () { u with mfGroup := g }) :
    Yields (request x tone st pulse >>= k) { s with acceptMode := mode }
      (if tone = 0 then errorEnded .invalidMfTone x.env s.out s
      else if x.env.werr = true ∧ tone ≠ s.mfWriteTone then
        ended (s.out ++ [Action.evt (.osError .toneFlush)]) .ioError { s with acceptMode := mode }
      else
        ended (s.out ++ toneActions tone s ++ armActions (requestTimer pulse) s) .ok
          { s with
            mfWriteTone := tone, mfState := st, mfGroup := g, acceptMode := mode
            armed := s.armed ||| timerBit (requestTimer pulse) }) := by
  split
  next h0 =>
    have hbase : errorEnded .invalidMfTone x.env s.out s =
        errorEnded .invalidMfTone x.env s.out { s with acceptMode := mode } := by
      unfold errorEnded errorActions
      cases x.env.werr <;> rfl
    rw [hbase]
    exact Yields.protocolError (bind_protocolError (congrFun (if_pos h0) _)) (by exact hr)
  next h0 =>
    split
    next hw => exact Yields.ioError (bind_ioError (request_failed st pulse h0 hw.1 (by exact hw.2))) (by exact hr)
    next hw => exact Yields.ok ((bind_ok (request_ok st pulse h0 (by exact hw))).trans (hk _ (by rfl)))

/-- What a phase is called in the rule. -/
def Phase.wanted : Phase → Wanted
  | .dnis => .dnis
  | .category => .category
  | .ani => .ani
  | .finish => .finish

theorem nextWanted_eq (s : State) : nextWanted s = (nextPhase s).wanted := by
  unfold nextWanted nextPhase aniFirst wantDnis wantCategory wantAni
  simp only [Bool.and_assoc, Bool.and_eq_true, decide_eq_true_eq, and_assoc]
  split_ifs <;> rfl

/-- A request of the phase whose turn it is, and the group it leads to. -/
theorem phaseRequest_yields (hr : NoReentry s) {p : Phase} (hp : nextPhase s = p) (pulse : Bool) {k : Unit → Act Unit}
    (hk : ∀ u, u.mfGroup = s.mfGroup → k () u = .ok () { u with mfGroup := phaseGroup s p }) :
    Yields (request x (phaseTone s p) (phaseState s p) pulse >>= k) { s with acceptMode := phaseMode s p }
      (asked pulse x.env s.out s) := by
  subst hp
  exact request_yields hr _ _ pulse _ hk

/-- The same where the group stays. -/
theorem plainRequest_yields (hr : NoReentry s) {p : Phase} (hp : nextPhase s = p) (hg : phaseGroup s p = s.mfGroup)
    (pulse : Bool) : Yields (request x (phaseTone s p) (phaseState s p) pulse) { s with acceptMode := phaseMode s p }
      (asked pulse x.env s.out s) := by
  rw [← bind_pure (request x (phaseTone s p) (phaseState s p) pulse)]
  exact phaseRequest_yields hr hp pulse fun u hu => by rw [hg, ← hu]; rfl

theorem requestDnis_yields (hr : NoReentry s) (hp : nextPhase s = .dnis) (pulse : Bool) :
    Yields (requestDnis x pulse) s (asked pulse x.env s.out s) := by
  by_cases hgc : s.mfGroup = .gc
  · refine .of_eq (see_pos (c := fun s => s.mfGroup = .gc) hgc) ?_
    have h := phaseRequest_yields (x := x) hr hp pulse (k := fun _ => upd fun s => { s with mfGroup := .ga })
      fun u _ => by rw [phaseGroup, if_pos hgc]; rfl
    rwa [phaseTone, if_pos hgc] at h
  · refine .of_eq (see_neg (c := fun s => s.mfGroup = .gc) hgc) ?_
    have h := plainRequest_yields (x := x) hr hp (if_neg hgc) pulse
    rwa [phaseTone, if_neg hgc] at h

theorem asksForGroupC_iff : asksForGroupC s = true ↔ s.cfg.ga.requestCategoryAndChangeToGc ≠ 0 ∧ s.mfGroup = .ga := by
  simp [asksForGroupC]

theorem requestCategory_yields (hr : NoReentry s) (hp : nextPhase s = .category) (pulse : Bool) :
    Yields (requestCategory x pulse) s (asked pulse x.env s.out s) := by
  by_cases hgc : asksForGroupC s = true
  · refine .of_eq (see_pos (c := fun s => s.cfg.ga.requestCategoryAndChangeToGc ≠ 0 ∧ s.mfGroup = .ga)
      (asksForGroupC_iff.mp hgc)) ?_
    have h := phaseRequest_yields (x := x) hr hp pulse (k := fun _ => upd fun s => { s with mfGroup := .gc })
      fun u _ => by rw [phaseGroup, if_pos hgc]; rfl
    rwa [phaseTone, if_pos hgc] at h
  · refine .of_eq (see_neg (c := fun s => s.cfg.ga.requestCategoryAndChangeToGc ≠ 0 ∧ s.mfGroup = .ga)
      (mt asksForGroupC_iff.mpr hgc)) ?_
    have h := plainRequest_yields (x := x) hr hp (if_neg hgc) pulse
    rwa [phaseTone, if_neg hgc] at h

theorem acceptsAtOnce_iff (c : Cfg) : acceptsAtOnce c = true ↔
    c.immediateAccept = true ∧ c.ga.addressCompleteChargeSetup ≠ 0 := by
  simp [acceptsAtOnce]

theorem finishCollection_yields (hr : NoReentry s) (hp : nextPhase s = .finish) (pulse : Bool) :
    Yields (finishCollection x pulse) s (asked pulse x.env s.out s) := by
  have h := plainRequest_yields (x := x) hr hp rfl pulse
  by_cases hacc : acceptsAtOnce s.cfg = true
  · refine .of_eq (see_pos (c := fun s => s.cfg.immediateAccept = true ∧ s.cfg.ga.addressCompleteChargeSetup ≠ 0)
      ((acceptsAtOnce_iff _).mp hacc)) ?_
    rw [phaseTone, phaseState, phaseMode, if_pos hacc, if_pos hacc, if_pos hacc] at h
    exact .of_eq (upd_bind _ _ _) h
  · refine .of_eq (see_neg (c := fun s => s.cfg.immediateAccept = true ∧ s.cfg.ga.addressCompleteChargeSetup ≠ 0)
      (mt (acceptsAtOnce_iff _).mpr hacc)) ?_
    rwa [phaseTone, phaseState, phaseMode, if_neg hacc, if_neg hacc, if_neg hacc] at h

/-- The next request (R188). -/
theorem nextRequest_yields (pulse : Bool) (hr : NoReentry s) :
    Yields (nextRequest x pulse) s (asked pulse x.env s.out s) := by
  have hn := nextWanted_eq s
  unfold nextRequest
  cases hp : nextPhase s <;> rw [hp] at hn
  case dnis => exact .of_eq (by rw [see_bind, hn]; rfl) (requestDnis_yields hr hp pulse)
  case category => exact .of_eq (by rw [see_bind, hn]; rfl) (requestCategory_yields hr hp pulse)
  case ani => exact .of_eq (by rw [see_bind, hn]; rfl) (plainRequest_yields hr hp rfl pulse)
  case finish => exact .of_eq (by rw [see_bind, hn]; rfl) (finishCollection_yields hr hp pulse)

end Requests

end Sys2Proof.Machine
end

section
/-! PROOFS. TONE_ON (spec/41_tone_events.md sections 1 and 2): how a tone reaches the two halves of the tone machine, and what
the backward side does with it. -/

namespace Sys2Proof.Machine

/-! ### The outcomes of a rule do not read the trace or the responses -/

theorem asked_bare (pulse : Bool) (env : Env) (acts : List Action) (s : State) :
    asked pulse env acts (bare s) = asked pulse env acts s := by
  unfold asked
  rw [errorEnded_bare]
  rfl

theorem asked_of_bare {s t : State} {acts bs : List Action} (hacts : acts = bs) (h : bare s = bare t) (pulse : Bool)
    (env : Env) : asked pulse env acts s = asked pulse env bs t := by
  rw [hacts]
  exact eq_of_bare (asked_bare pulse env bs) h

/-! ### How a tone reaches the tone machine (R191, R195, R211) -/

section Entry
variable {t : Tone} {env : Env} {s : State}

/-- The end of a tone word's rule: the half the channel plays, then STATUS Ok. -/
theorem toneOn_new (hs : ToneStarts t s) : ruleOf (.toneOn t env) (topCtx env) (startTrace s) =
    (bySide (topCtx env) (backwardToneOn (topCtx env) t) (forwardToneOn (topCtx env) t) s.direction >>=
      fun _ => status .ok) (startTrace { s with mfReadTone := t }) := by
  obtain ⟨ha, hl, h0, hne⟩ := hs
  show toneOn t (topCtx env) (startTrace s) = _
  unfold toneOn
  rw [see_bind, if_neg (by simp [ha]), if_neg (by simp [hl]), if_neg (by simpa [h0] using hne.symm), if_neg (by simp [h0])]
  rfl

theorem toneOn_wf (hs : ToneStarts t s) : (Instr.toneOn t env).wf = true := toneWellFormed_of_ne hs.2.2.2

/-- TONE_ON on the backward side: the two cycle timers are cancelled first (R195). -/
theorem toneOn_backward (hs : ToneStarts t s) (hd : s.direction = .backward) :
    ruleOf (.toneOn t env) (topCtx env) (startTrace s) =
      (backwardToneOnGroup (topCtx env) t s.mfState s.mfGroup >>= fun _ => status .ok)
        { heardBackward t s with out := backwardActions s } := by
  have hside : bySide (topCtx env) (backwardToneOn (topCtx env) t) (forwardToneOn (topCtx env) t) s.direction =
      backwardToneOn (topCtx env) t := by rw [hd]; rfl
  rw [toneOn_new hs, hside]
  refine bind_congr_at ?_
  unfold backwardToneOn
  rw [upd_bind, cancelEach_eq _ (by decide)]
  rfl

/-- TONE_ON on the forward side: the safety timer is cancelled and the own tone muted first (R211). -/
theorem toneOn_forward (hs : ToneStarts t s) (hd : s.direction = .forward) :
    ruleOf (.toneOn t env) (topCtx env) (startTrace s) =
      ((if s.mfState = .off ∧ inForwardGroup s = true then protocolError (topCtx env) .invalidMfState
        else forwardToneOnGroup (topCtx env) t s.mfGroup) >>= fun _ => status .ok)
        { heardForward t s with out := forwardActions s } := by
  have hside : bySide (topCtx env) (backwardToneOn (topCtx env) t) (forwardToneOn (topCtx env) t) s.direction =
      forwardToneOn (topCtx env) t := by rw [hd]; rfl
  rw [toneOn_new hs, hside]
  refine bind_congr_at ?_
  unfold forwardToneOn
  rw [upd_bind, cancel_eq, bind_ok (setTone_toned (topCtx env) 0 _ (.inr (.inl rfl)))]
  rfl

/-- What the backward side does with a tone is what the operation does. -/
theorem exec_toneOn_backward {m : Act Unit} {u r : State} (hs : ToneStarts t s) (hd : s.direction = .backward)
    (h : backwardToneOnGroup (topCtx env) t s.mfState s.mfGroup { heardBackward t s with out := backwardActions s } = m u)
    (hy : Yields m u r) : exec (.toneOn t env) s = .next r :=
  exec_yields (toneOn_wf hs) (toneOn_backward hs hd) (.of_eq h hy)

/-- What the forward side does with a tone in a phase that reads one is what the operation does. -/
theorem exec_toneOn_forward {m : Act Unit} {u r : State} (hs : ToneStarts t s) (hd : s.direction = .forward)
    (hst : s.mfState ≠ .off)
    (h : forwardToneOnGroup (topCtx env) t s.mfGroup { heardForward t s with out := forwardActions s } = m u)
    (hy : Yields m u r) : exec (.toneOn t env) s = .next r :=
  exec_yields (toneOn_wf hs) ((toneOn_forward hs hd).trans (by rw [if_neg fun e => hst e.1])) (.of_eq h hy)

end Entry

/-- Settles O32. -/
theorem twoTonesWithoutOffIsBroken : Obligations.TwoTonesWithoutOffIsBroken := by
  intro t env s ha hl ht h0 hne hr
  refine exec_protocolError (i := .toneOn t env) (toneWellFormed_of_ne ht) (u := startTrace s) (by exact hr) ?_ rfl rfl
  show toneOn t (topCtx env) (startTrace s) = _
  unfold toneOn
  rw [see_bind, if_neg (by simp [ha]), if_neg (by simp [hl]), if_neg (by exact hne), if_pos (by exact h0)]
  rfl

/-! ### Backward side: the DNIS (R196) -/

section Dnis
variable {x : Ctx} {s u : State} {t : Tone} {d : Digit}

theorem closeDnisAfter_eq (stop : Bool) (s : State) : closeDnisAfter stop s =
    { s with dnisDone := s.dnisDone || stop || decide (s.dnisLen = s.cfg.maxDnis.toNat) } := by
  unfold closeDnisAfter
  by_cases h : stop = true ∨ s.dnisLen = s.cfg.maxDnis.toNat
  · have e : (s.dnisDone || stop || decide (s.dnisLen = s.cfg.maxDnis.toNat)) = true := by
      rcases h with h | h <;> simp [h]
    rw [if_pos h, e]
  · obtain ⟨h1, h2⟩ := not_or.mp h
    have e : (s.dnisDone || stop || decide (s.dnisLen = s.cfg.maxDnis.toNat)) = s.dnisDone := by simp [h1, h2]
    rw [if_neg h, e]

/-- A digit stored and reported, from what the report does. -/
theorem storeDnis_yields {r : RespBits}
    (h : emitGuarded x (.dnisDigitReceived d) (appendDnis d s) = .ok (some r) u) (hr : NoReentry u) :
    Yields (storeDnis x d) s (asked false x.env u.out
      { u with dnisDone := u.dnisDone || respStop r || decide (u.dnisLen = u.cfg.maxDnis.toNat) }) := by
  have hrun : storeDnis x d s = nextRequest x false (closeDnisAfter (respStop r) u) := by
    unfold storeDnis
    rw [upd_bind, bind_ok h]
    rfl
  rw [closeDnisAfter_eq] at hrun
  exact .of_eq hrun (nextRequest_yields false (by exact hr))

theorem closeDnis_yields (hr : NoReentry s) :
    Yields (closeDnis x) s (asked false x.env s.out { s with dnisDone := true }) :=
  .of_eq (upd_bind _ _ _) (nextRequest_yields false (by exact hr))

theorem receiveDnis_digit (hd : toneDigit t = some d) (hlt : s.dnisLen < s.cfg.maxDnis.toNat) :
    receiveDnis x t s = storeDnis x d s := by
  unfold receiveDnis
  rw [see_bind, hd]
  exact congrFun (if_pos hlt) s

theorem receiveDnis_full (hd : toneDigit t = some d) (hge : s.cfg.maxDnis.toNat ≤ s.dnisLen) :
    receiveDnis x t s = closeDnis x s := by
  unfold receiveDnis
  rw [see_bind, hd]
  exact congrFun (if_neg (by omega)) s

theorem receiveDnis_noDigit (hd : toneDigit t = none) : receiveDnis x t s =
    (if t = s.cfg.g1.noMoreDnisAvailable then closeDnis x else protocolError x .invalidMfTone) s := by
  unfold receiveDnis
  rw [see_bind, hd]

/-- The group in which the DNIS is collected: the first tone opens Group A (R195). -/
def opened (s : State) : State := { s with mfGroup := if s.mfGroup = .backInit then .ga else s.mfGroup }

/-- A tone in a phase that collects the DNIS (R195). -/
theorem backwardToneOnGroup_dnis {st : MfState} {g : MfGroup} (hst : s.mfState = st) (hg : s.mfGroup = g)
    (h : (g = .backInit ∧ st = .seizeAckTxd) ∨ (g ∈ [MfGroup.ga, .gc] ∧ st = .dnisRqTxd)) :
    backwardToneOnGroup x t st g s = receiveDnis x t (opened s) := by
  simp only [List.mem_cons, List.not_mem_nil, or_false] at h
  unfold opened
  rcases h with ⟨rfl, rfl⟩ | ⟨rfl | rfl, rfl⟩
  · rw [hg, if_pos rfl]
    exact see_pos (c := fun s => s.mfState = .seizeAckTxd) hst
  · rw [if_neg (by simp [hg])]
    rfl
  · rw [if_neg (by simp [hg])]
    rfl

end Dnis

/-- Settles O33. -/
theorem backwardSideCollectsDnis : Obligations.BackwardSideCollectsDnis := by
  intro t env s heard op hs hr hd hph
  have hrun := backwardToneOnGroup_dnis (x := topCtx env) (t := t)
    (s := { heardBackward t s with out := backwardActions s }) rfl rfl hph
  refine ⟨fun d htd => ⟨fun hlt => ?_, fun hge => ?_⟩, fun htd ht => ?_, fun htd ht => ?_⟩
  · refine exec_toneOn_backward hs hd (hrun.trans (receiveDnis_digit htd (by exact hlt)))
      ((storeDnis_yields (emitGuarded_told _ _ (by exact hr)) (NoReentry.of_tail hr (by rfl))).to ?_)
    refine asked_of_bare (by rfl) ?_ _ _
    simp [bare, told, opened, appendDnis, op, heard, heardBackward, State.dnisLen]
    exact ⟨rfl, rfl⟩
  · exact exec_toneOn_backward hs hd (hrun.trans (receiveDnis_full htd (by exact hge)))
      ((closeDnis_yields (by exact hr)).to (asked_of_bare (by rfl) (by rfl) _ _))
  · refine exec_toneOn_backward hs hd (hrun.trans ((receiveDnis_noDigit htd).trans (congrFun (if_pos (by exact ht)) _)))
      ((closeDnis_yields (by exact hr)).to (asked_of_bare (by rfl) (by rfl) _ _))
  · refine exec_toneOn_backward hs hd
      (hrun.trans ((receiveDnis_noDigit htd).trans (congrFun (if_neg (by exact ht)) _)))
      ((Yields.protocolError (x := topCtx env) rfl (by exact hr)).to (errorEnded_of_bare (by rfl) (by rfl) _ _))

/-! ### Backward side: the category, the ANI and Group II (R200, R203, R205) -/

section Ani
variable {x : Ctx} {s u : State} {t : Tone} {d : Digit}

theorem isCategoryTone_iff {c : Cfg} (h0 : t ≠ 0) : isCategoryTone c t = true ↔ t ∈ group2Tones c := by
  have hne : ¬ t = 0#4 := h0
  simp [isCategoryTone, hne]

theorem receiveCategory_yields (h0 : t ≠ 0) (ht : t ∈ group2Tones s.cfg) (hr : NoReentry s) :
    Yields (receiveCategory x t) s (asked false x.env s.out { s with callerCategory := t }) :=
  .of_eq (see_pos (c := fun s => isCategoryTone s.cfg t = true) ((isCategoryTone_iff h0).mpr ht))
    (.of_eq (upd_bind _ _ _) (nextRequest_yields false (by exact hr)))

theorem closeAniByCount_eq (s : State) : closeAniByCount s =
    { s with aniDone := s.aniDone || (s.cfg.forceUseMaxAni && decide (s.cfg.maxAni.toNat ≤ s.aniLen)) } := by
  unfold closeAniByCount
  by_cases h : s.cfg.forceUseMaxAni = true ∧ s.cfg.maxAni.toNat ≤ s.aniLen
  · rw [if_pos h]
    simp [h.1, h.2]
  · rw [if_neg h]
    have e : (s.cfg.forceUseMaxAni && decide (s.cfg.maxAni.toNat ≤ s.aniLen)) = false := by simpa using h
    rw [e, Bool.or_false]

theorem afterAniDigit_yields (hr : NoReentry s) : Yields (afterAniDigit x) s (asked false x.env s.out
    { s with aniDone := s.aniDone || (s.cfg.forceUseMaxAni && decide (s.cfg.maxAni.toNat ≤ s.aniLen)) }) := by
  rw [← closeAniByCount_eq]
  exact .of_eq (upd_bind _ _ _) (.to (nextRequest_yields false (by rw [closeAniByCount_eq]; exact hr))
    (by rw [closeAniByCount_eq]))

/-- A digit stored and reported, from what the report does. -/
theorem storeAni_yields {r : RespBits} (hlt : s.aniLen < s.cfg.maxAni.toNat)
    (h : emitGuarded x (.aniDigitReceived d) (appendAni d s) = .ok (some r) u) (hr : NoReentry u) :
    Yields (storeAni x d) s (asked false x.env u.out
      { u with aniDone := u.aniDone || (u.cfg.forceUseMaxAni && decide (u.cfg.maxAni.toNat ≤ u.aniLen)) }) :=
  .of_eq ((see_pos (c := fun s => s.aniLen < s.cfg.maxAni.toNat) hlt).trans ((upd_bind _ _ _).trans (bind_ok h)))
    (afterAniDigit_yields hr)

theorem storeAni_full (hge : s.cfg.maxAni.toNat ≤ s.aniLen) : storeAni x d s = afterAniDigit x s :=
  see_neg (c := fun s => s.aniLen < s.cfg.maxAni.toNat) (by omega)

theorem receiveAni_restricted (h : t = s.cfg.g1.callerAniIsRestricted) :
    receiveAni x t s = nextRequest x false { s with aniRestricted := true, aniDone := true } :=
  see_pos (c := fun s => t = s.cfg.g1.callerAniIsRestricted) h

theorem receiveAni_ended (h1 : t ≠ s.cfg.g1.callerAniIsRestricted) (h2 : t = s.cfg.g1.noMoreAniAvailable) :
    receiveAni x t s = nextRequest x false { s with aniDone := true } := by
  unfold receiveAni
  rw [see_bind, if_neg h1, if_pos h2]
  rfl

theorem receiveAni_digit (hn : t ∉ [s.cfg.g1.callerAniIsRestricted, s.cfg.g1.noMoreAniAvailable])
    (hd : toneDigit t = some d) : receiveAni x t s = storeAni x d s := by
  simp only [List.mem_cons, List.not_mem_nil, or_false, not_or] at hn
  unfold receiveAni
  rw [see_bind, if_neg hn.1, if_neg hn.2, hd]

theorem receiveAni_noDigit (hn : t ∉ [s.cfg.g1.callerAniIsRestricted, s.cfg.g1.noMoreAniAvailable])
    (hd : toneDigit t = none) : receiveAni x t s = protocolError x .invalidMfTone s := by
  simp only [List.mem_cons, List.not_mem_nil, or_false, not_or] at hn
  unfold receiveAni
  rw [see_bind, if_neg hn.1, if_neg hn.2, hd]

theorem receiveGroupII_ok (h0 : t ≠ 0) (ht : t ∈ group2Tones s.cfg) (hr : NoReentry s) :
    receiveGroupII x t s = .ok () (told (.callOffered t)
      { s with callerCategory := t, mfGroup := .gb, callState := .offered }) :=
  (see_pos (c := fun s => isCategoryTone s.cfg t = true) ((isCategoryTone_iff h0).mpr ht)).trans
    ((upd_bind _ _ _).trans (notify_told x _ (by exact hr)))

/-- A tone in Group A or C is read by the phase (R195). -/
theorem backwardToneOnGroup_phase {st : MfState} {g : MfGroup} (hg : g ∈ [MfGroup.ga, .gc]) :
    backwardToneOnGroup x t st g s = backwardGroupToneOn x t st s := by
  simp only [List.mem_cons, List.not_mem_nil, or_false] at hg
  rcases hg with rfl | rfl <;> rfl

end Ani

/-- Settles O34. -/
theorem backwardSideCollectsCategoryAndAni : Obligations.BackwardSideCollectsCategoryAndAni := by
  intro t env s heard hs hr hd hg
  obtain ⟨_, _, _, h0⟩ := id hs
  have read : ∀ {st : MfState}, s.mfState = st →
      backwardToneOnGroup (topCtx env) t s.mfState s.mfGroup { heardBackward t s with out := backwardActions s } =
        backwardGroupToneOn (topCtx env) t st { heardBackward t s with out := backwardActions s } := fun hst => by
    rw [backwardToneOnGroup_phase hg, hst]
  refine ⟨fun hst ht => ?_, fun hst => ⟨fun ht => ?_, fun h1 ht => ?_, fun d hn htd => ⟨fun hlt => ?_, fun hge => ?_⟩,
    fun hn htd => ?_⟩, fun hst ht => ?_, fun hst ht => ?_⟩
  · exact exec_toneOn_backward hs hd (read hst) ((receiveCategory_yields h0 (by exact ht) (by exact hr)).to
      (asked_of_bare (by rfl) (by rfl) _ _))
  · exact exec_toneOn_backward hs hd ((read hst).trans (receiveAni_restricted (by exact ht)))
      ((nextRequest_yields false (by exact hr)).to (asked_of_bare (by rfl) (by rfl) _ _))
  · exact exec_toneOn_backward hs hd ((read hst).trans (receiveAni_ended (by exact h1) (by exact ht)))
      ((nextRequest_yields false (by exact hr)).to (asked_of_bare (by rfl) (by rfl) _ _))
  · have hr' := hr.told (ev := .aniDigitReceived d)
    refine exec_toneOn_backward hs hd ((read hst).trans (receiveAni_digit (by exact hn) htd))
      ((storeAni_yields (by exact hlt) (emitGuarded_told _ _ (by exact hr)) (by exact hr')).to ?_)
    refine asked_of_bare (by rfl) ?_ _ _
    have hcount : decide (s.cfg.maxAni.toNat ≤ (s.ani ++ [d]).length) = decide (s.aniLen + 1 = s.cfg.maxAni.toNat) :=
      decide_eq_decide.mpr (by rw [List.length_append]; simp only [State.aniLen, List.length_singleton] at *; omega)
    exact congrArg (fun b => bare
      { heardBackward t s with ani := s.ani ++ [d], aniDone := s.aniDone || (s.cfg.forceUseMaxAni && b) }) hcount
  · refine exec_toneOn_backward hs hd ((read hst).trans ((receiveAni_digit (by exact hn) htd).trans (storeAni_full (by exact hge))))
      ((afterAniDigit_yields (by exact hr)).to ?_)
    refine asked_of_bare (by rfl) ?_ _ _
    have hcount : decide (s.cfg.maxAni.toNat ≤ s.aniLen) = true := by simpa using hge
    refine (congrArg (fun b => bare
      { heardBackward t s with aniDone := s.aniDone || (s.cfg.forceUseMaxAni && b) }) hcount).trans ?_
    rw [Bool.and_true]
  · exact exec_toneOn_backward hs hd ((read hst).trans (receiveAni_noDigit (by exact hn) htd))
      ((Yields.protocolError (x := topCtx env) rfl (by exact hr)).to (errorEnded_of_bare (by rfl) (by rfl) _ _))
  · exact exec_toneOn_backward hs hd (read hst)
      ((Yields.ok (receiveGroupII_ok h0 (by exact ht) (by exact hr))).to (ended_of_bare (by rfl) (by rfl) _))
  · have hno : ¬ isCategoryTone s.cfg t = true := mt (isCategoryTone_iff h0).mp ht
    have hrun : backwardGroupToneOn (topCtx env) t s.mfState { heardBackward t s with out := backwardActions s } =
        protocolError (topCtx env) .invalidMfTone { heardBackward t s with out := backwardActions s } := by
      simp only [List.mem_cons, List.not_mem_nil, or_false] at hst
      rcases hst with hst | hst
      · rw [hst]
        exact see_neg (c := fun s => isCategoryTone s.cfg t = true) hno
      · rw [hst]
        exact see_neg (c := fun s => isCategoryTone s.cfg t = true) hno
    exact exec_toneOn_backward hs hd ((backwardToneOnGroup_phase hg).trans hrun)
      ((Yields.protocolError (x := topCtx env) rfl (by exact hr)).to (errorEnded_of_bare (by rfl) (by rfl) _ _))

end Sys2Proof.Machine
end

section
/-! PROOFS. TONE_ON on the forward side (spec/41_tone_events.md section 3): what a backward tone asks for is latched, or it
decides the call. -/

namespace Sys2Proof.Machine

/-! ### What falls due (R213 to R215) -/

section Due
variable {x : Ctx} {s : State}

/-- The wait for the safety pulse (R214, R215). -/
theorem arm_waiting (s : State) : arm .mfFwdSafety { s with mfState := .waitingTimeout } =
    { s with
      mfState := .waitingTimeout, armed := s.armed ||| timerBit .mfFwdSafety
      out := s.out ++ armActions .mfFwdSafety s } := by
  rw [arm_eq]
  rfl

theorem dueDnis_yields (i : Nat) (s : State) : Yields (upd (dueDnis i)) s (dnisLatched i s.out s) := by
  refine (Yields.ok (upd_apply _ _)).to ?_
  unfold dueDnis dnisLatched
  split
  · rfl
  · split
    · rfl
    · rw [arm_waiting]
      rfl

theorem dueAni_yields (s : State) : Yields (upd dueAni) s (aniLatched s.out s) := by
  refine (Yields.ok (upd_apply _ _)).to ?_
  unfold dueAni aniLatched
  split
  · rfl
  · split
    · rfl
    · split
      · rfl
      · rw [arm_waiting]
        rfl

theorem offsetDnis_ok {k i : Nat} (h : s.dnisIndex.toNat = i + k) : offsetDnis x k s = upd (dueDnis i) s := by
  have e : s.dnisIndex.toNat - k = i := by omega
  refine (see_neg (c := fun s => s.dnisIndex.toNat < k) (by omega)).trans ?_
  rw [e]

theorem offsetDnis_bug {k : Nat} (h : s.dnisIndex.toNat < k) : offsetDnis x k s = protocolError x .libraryBug s :=
  see_pos (c := fun s => s.dnisIndex.toNat < k) h

/-- R224. -/
theorem acceptSeen_yields (mode : Mode) (hr : NoReentry s) : Yields (acceptSeen x mode) s (toneAccepted mode s.out s) := by
  unfold toneAccepted
  split
  next h =>
    refine .of_eq ((upd_bind _ _ _).trans (see_pos (c := fun s => s.casState = .answerRxdMfPending) (by exact h)))
      ((Yields.ok (acceptThenAnswer_ok mode (by exact hr))).to (ended_of_bare ?_ (by rfl) _))
    simp [told]
    rfl
  next h =>
    refine .of_eq ((upd_bind _ _ _).trans ((see_neg (c := fun s => s.casState = .answerRxdMfPending) (by exact h)).trans
      (upd_bind _ _ _))) ?_
    rw [arm_eq]
    exact (Yields.ok (notify_told x _ (by exact hr))).to (ended_of_bare (by rfl) (by rfl) _)

/-- R225. -/
theorem mfDisconnect_yields (cause : Cause) (hr : NoReentry s) :
    Yields (mfDisconnect x cause) s (toneRefused cause s.out s) := by
  refine .of_eq ((upd_bind _ _ _).trans (upd_bind _ _ _)) ?_
  rw [cancel_eq]
  exact (Yields.ok (notify_told x _ (by exact hr))).to (ended_of_bare (by rfl) (by rfl) _)

end Due

section Forward
variable {t : Tone} {env : Env} {s : State} {m : Act Unit}

/-- The channel as the forward side reads a tone, the trace so far in it. -/
def heardNow (t : Tone) (s : State) : State := { heardForward t s with out := forwardActions s }

/-- A protocol error of the forward side. -/
theorem heardNow_error (kind : ErrorKind) (hr : NoReentry s) :
    Yields (protocolError (topCtx env) kind) (heardNow t s) (errorEnded kind env (forwardActions s) (heardForward t s)) :=
  (Yields.protocolError (x := topCtx env) rfl (by exact hr)).to (errorEnded_of_bare (by rfl) (by rfl) _ _)

/-- TONE_ON in a group of the forward side, from what the group's table does. -/
theorem exec_toneOn_heard {r : State} (hs : ToneStarts t s) (hd : s.direction = .forward) (hst : s.mfState ≠ .off)
    (h : forwardToneOnGroup (topCtx env) t s.mfGroup (heardNow t s) = m (heardNow t s)) (hy : Yields m (heardNow t s) r) :
    exec (.toneOn t env) s = .next r := exec_toneOn_forward hs hd hst h hy

theorem dnisLatched_heardNow (i : Nat) :
    Yields (upd (dueDnis i)) (heardNow t s) (dnisLatched i (forwardActions s) (heardForward t s)) :=
  (dueDnis_yields i _).to (eq_of_bare (F := dnisLatched i (forwardActions s)) (fun _ => rfl) (by rfl))

theorem aniLatched_heardNow : Yields (upd dueAni) (heardNow t s) (aniLatched (forwardActions s) (heardForward t s)) :=
  (dueAni_yields _).to (eq_of_bare (F := aniLatched (forwardActions s)) (fun _ => rfl) (by rfl))

theorem acceptSeen_heardNow (mode : Mode) (hr : NoReentry s) :
    Yields (acceptSeen (topCtx env) mode) (heardNow t s) (toneAccepted mode (forwardActions s) (heardForward t s)) :=
  (acceptSeen_yields mode (by exact hr)).to (eq_of_bare (F := toneAccepted mode (forwardActions s)) (fun _ => rfl) (by rfl))

theorem mfDisconnect_heardNow (cause : Cause) (hr : NoReentry s) :
    Yields (mfDisconnect (topCtx env) cause) (heardNow t s) (toneRefused cause (forwardActions s) (heardForward t s)) :=
  (mfDisconnect_yields cause (by exact hr)).to
    (eq_of_bare (F := toneRefused cause (forwardActions s)) (fun _ => rfl) (by rfl))

end Forward

/-! ### Group A (R212) -/

section GroupA
variable {x : Ctx} {t : Tone} {s : State}

/-- The tones of rows 1 to 5 (R212). -/
def dnisRequests (c : Cfg) : List Tone :=
  [c.ga.requestNextDnisDigit, c.ga.requestDnisMinus1, c.ga.requestDnisMinus2, c.ga.requestDnisMinus3, c.ga.requestAllDnisAgain]

theorem decodeGroupA_next (h : t = s.cfg.ga.requestNextDnisDigit) :
    decodeGroupA x t s = upd (dueDnis (s.dnisIndex.toNat + 1)) s :=
  (see_bind _ _).trans (congrFun (if_pos h) _)

theorem decodeGroupA_minus1 (h1 : t ≠ s.cfg.ga.requestNextDnisDigit) (h : t = s.cfg.ga.requestDnisMinus1) :
    decodeGroupA x t s = offsetDnis x 1 s :=
  (see_bind _ _).trans (congrFun ((if_neg h1).trans (if_pos h)) _)

theorem decodeGroupA_minus2 (hn : t ∉ [s.cfg.ga.requestNextDnisDigit, s.cfg.ga.requestDnisMinus1])
    (h : t = s.cfg.ga.requestDnisMinus2) : decodeGroupA x t s = offsetDnis x 2 s := by
  simp only [List.mem_cons, List.not_mem_nil, or_false, not_or] at hn
  exact (see_bind _ _).trans (congrFun ((if_neg hn.1).trans ((if_neg hn.2).trans (if_pos h))) _)

theorem decodeGroupA_minus3
    (hn : t ∉ [s.cfg.ga.requestNextDnisDigit, s.cfg.ga.requestDnisMinus1, s.cfg.ga.requestDnisMinus2])
    (h : t = s.cfg.ga.requestDnisMinus3) : decodeGroupA x t s = offsetDnis x 3 s := by
  simp only [List.mem_cons, List.not_mem_nil, or_false, not_or] at hn
  obtain ⟨h1, h2, h3⟩ := hn
  exact (see_bind _ _).trans (congrFun ((if_neg h1).trans ((if_neg h2).trans ((if_neg h3).trans (if_pos h)))) _)

theorem decodeGroupA_again
    (hn : t ∉ [s.cfg.ga.requestNextDnisDigit, s.cfg.ga.requestDnisMinus1, s.cfg.ga.requestDnisMinus2,
      s.cfg.ga.requestDnisMinus3])
    (h : t = s.cfg.ga.requestAllDnisAgain) : decodeGroupA x t s = upd (dueDnis 0) s := by
  simp only [List.mem_cons, List.not_mem_nil, or_false, not_or] at hn
  obtain ⟨h1, h2, h3, h4⟩ := hn
  exact (see_bind _ _).trans
    (congrFun ((if_neg h1).trans ((if_neg h2).trans ((if_neg h3).trans ((if_neg h4).trans (if_pos h))))) _)

/-- Rows 6 to 13 (R212). -/
theorem decodeGroupA_other (hn : t ∉ dnisRequests s.cfg) : decodeGroupA x t s =
    (if t = s.cfg.ga.requestCategory ∧ s.categorySent = false then upd dueCategory
    else if t = s.cfg.ga.requestCategoryAndChangeToGc then upd (fun s => { dueCategory s with mfGroup := .giii })
    else if t = s.cfg.ga.requestNextAniDigit then upd dueAni
    else if t = s.cfg.ga.requestCategory then upd dueCategory
    else if t = s.cfg.ga.requestChangeToG2 then upd (fun s => { dueCategory s with mfGroup := .gii })
    else if t = s.cfg.ga.addressCompleteChargeSetup then acceptSeen x (modeOfTone s.cfg t)
    else if t = s.cfg.ga.networkCongestion then mfDisconnect x .networkCongestion
    else protocolError x .invalidMfTone) s := by
  simp only [dnisRequests, List.mem_cons, List.not_mem_nil, or_false, not_or] at hn
  obtain ⟨h1, h2, h3, h4, h5⟩ := hn
  exact (see_bind _ _).trans
    (congrFun ((if_neg h1).trans ((if_neg h2).trans ((if_neg h3).trans ((if_neg h4).trans (if_neg h5))))) _)

end GroupA

/-- In Group I the Group A table reads the tone (R211). -/
theorem forwardToneOnGroup_gi {s : State} (hg : s.mfGroup = .gi) (x : Ctx) (t : Tone) :
    forwardToneOnGroup x t s.mfGroup = decodeGroupA x t := by rw [hg]; rfl

/-- Settles O35. -/
theorem forwardSideLatchesDnisRequests : Obligations.ForwardSideLatchesDnisRequests := by
  intro t env s hs hr hd hg hst
  have hread := congrFun (forwardToneOnGroup_gi hg (topCtx env) t) (heardNow t s)
  refine ⟨fun i h => ?_, fun h => ?_⟩
  · have hrun : decodeGroupA (topCtx env) t (heardNow t s) = upd (dueDnis i) (heardNow t s) := by
      rcases h with ⟨h, rfl⟩ | ⟨hn, h, hi⟩ | ⟨hn, h, hi⟩ | ⟨hn, h, hi⟩ | ⟨hn, h, rfl⟩
      · exact decodeGroupA_next h
      · exact (decodeGroupA_minus1 (by exact hn) (by exact h)).trans (offsetDnis_ok (by exact hi))
      · exact (decodeGroupA_minus2 (by exact hn) (by exact h)).trans (offsetDnis_ok (by exact hi))
      · exact (decodeGroupA_minus3 (by exact hn) (by exact h)).trans (offsetDnis_ok (by exact hi))
      · exact decodeGroupA_again hn h
    exact exec_toneOn_heard hs hd hst (hread.trans hrun) (dnisLatched_heardNow i)
  · have hrun : decodeGroupA (topCtx env) t (heardNow t s) = protocolError (topCtx env) .libraryBug (heardNow t s) := by
      rcases h with ⟨hn, h, hi⟩ | ⟨hn, h, hi⟩ | ⟨hn, h, hi⟩
      · exact (decodeGroupA_minus1 (by exact hn) (by exact h)).trans (offsetDnis_bug (by exact hi))
      · exact (decodeGroupA_minus2 (by exact hn) (by exact h)).trans (offsetDnis_bug (by exact hi))
      · exact (decodeGroupA_minus3 (by exact hn) (by exact h)).trans (offsetDnis_bug (by exact hi))
    exact exec_toneOn_heard hs hd hst (hread.trans hrun) (heardNow_error _ hr)

/-- Settles O36. -/
theorem forwardSideLatchesOtherRequests : Obligations.ForwardSideLatchesOtherRequests := by
  intro t env s heard hs hr hd hg hst hn
  have hread := (congrFun (forwardToneOnGroup_gi hg (topCtx env) t) (heardNow t s)).trans (decodeGroupA_other hn)
  have row : ∀ {m : Act Unit} {r : State}, _ = m → Yields m (heardNow t s) r → exec (.toneOn t env) s = .next r :=
    fun h hy => exec_toneOn_heard hs hd hst (hread.trans (congrFun h _)) hy
  refine ⟨fun h1 h2 => row (if_pos ⟨h1, h2⟩) ?_, fun hn1 => ⟨fun h => row ((if_neg hn1).trans (if_pos h)) ?_, fun hn2 h =>
    row ((if_neg hn1).trans ((if_neg hn2).trans (if_pos h))) aniLatched_heardNow, fun hm => ?_⟩⟩
  · exact (Yields.ok (upd_apply _ _)).to (ended_of_bare (by rfl) (by rfl) _)
  · exact (Yields.ok (upd_apply _ _)).to (ended_of_bare (by rfl) (by rfl) _)
  simp only [List.mem_cons, List.not_mem_nil, or_false, not_or] at hm
  obtain ⟨hn2, hn3⟩ := hm
  have row : ∀ {m : Act Unit} {r : State}, _ = m → Yields m (heardNow t s) r → exec (.toneOn t env) s = .next r :=
    fun h hy => row ((if_neg hn1).trans ((if_neg hn2).trans ((if_neg hn3).trans h))) hy
  refine ⟨fun h => row (if_pos h) ?_, fun hn4 h => row ((if_neg hn4).trans (if_pos h)) ?_, fun hm => ?_⟩
  · exact (Yields.ok (upd_apply _ _)).to (ended_of_bare (by rfl) (by rfl) _)
  · exact (Yields.ok (upd_apply _ _)).to (ended_of_bare (by rfl) (by rfl) _)
  simp only [List.mem_cons, List.not_mem_nil, or_false, not_or] at hm ⊢
  obtain ⟨hn4, hn5⟩ := hm
  have row : ∀ {m : Act Unit} {r : State}, _ = m → Yields m (heardNow t s) r → exec (.toneOn t env) s = .next r :=
    fun h hy => row ((if_neg hn4).trans ((if_neg hn5).trans h)) hy
  exact ⟨fun h => row (if_pos h) (acceptSeen_heardNow _ hr),
    fun hn6 h => row ((if_neg hn6).trans (if_pos h)) (mfDisconnect_heardNow _ hr),
    fun hm => row ((if_neg hm.1).trans (if_neg hm.2)) (heardNow_error _ hr)⟩

/-! ### Groups C and B (R216, R217) -/

/-- Settles O37. -/
theorem forwardSideFollowsGroupC : Obligations.ForwardSideFollowsGroupC := by
  intro t env s heard hs hr hd hg hst
  have hread : forwardToneOnGroup (topCtx env) t s.mfGroup (heardNow t s) = decodeGroupC (topCtx env) t (heardNow t s) := by
    rw [hg]; rfl
  have row : ∀ {m : Act Unit} {r : State}, _ = m → Yields m (heardNow t s) r → exec (.toneOn t env) s = .next r :=
    fun h hy => exec_toneOn_heard hs hd hst (hread.trans ((see_bind _ _).trans (congrFun h _))) hy
  refine ⟨fun h => row (if_pos h) aniLatched_heardNow, fun hn1 h => row ((if_neg hn1).trans (if_pos h)) ?_, fun hm => ?_⟩
  · exact (Yields.ok (upd_apply _ _)).to (ended_of_bare (by rfl) (by rfl) _)
  simp only [List.mem_cons, List.not_mem_nil, or_false, not_or] at hm ⊢
  obtain ⟨hn1, hn2⟩ := hm
  refine ⟨fun h => row ((if_neg hn1).trans ((if_neg hn2).trans (if_pos h))) ?_, fun hn3 h =>
    row ((if_neg hn1).trans ((if_neg hn2).trans ((if_neg hn3).trans (if_pos h)))) (mfDisconnect_heardNow _ hr), fun hm =>
    row ((if_neg hn1).trans ((if_neg hn2).trans ((if_neg hm.1).trans (if_neg hm.2)))) (heardNow_error _ hr)⟩
  exact .of_eq (n := upd (dueDnis (s.dnisIndex.toNat + 1))) (u := { heardNow t s with mfGroup := .gi }) rfl
    ((dueDnis_yields _ _).to (eq_of_bare (F := dnisLatched _ (forwardActions s)) (fun _ => rfl) (by rfl)))

section GroupB
variable {x : Ctx} {t : Tone} {s : State}

/-- The accept tones (R218). -/
theorem decodeGroupB_accepts
    (h : t ∈ [s.cfg.gb.acceptCallWithCharge, s.cfg.gb.acceptCallNoCharge, s.cfg.gb.acceptCallSpecial]) :
    decodeGroupB x t s = acceptSeen x (modeOfTone s.cfg t) s := by
  unfold decodeGroupB modeOfTone
  rw [see_bind]
  by_cases h1 : t = s.cfg.gb.acceptCallWithCharge
  · rw [if_pos h1, if_pos h1]
  · by_cases h2 : t = s.cfg.gb.acceptCallNoCharge
    · rw [if_neg h1, if_pos h2, if_neg h1, if_pos h2]
    · have h3 : t = s.cfg.gb.acceptCallSpecial := by simpa [h1, h2] using h
      rw [if_neg h1, if_neg h2, if_pos h3, if_neg h1, if_neg h2, if_pos h3]

/-- The other rows (R217). -/
theorem decodeGroupB_other
    (h : t ∉ [s.cfg.gb.acceptCallWithCharge, s.cfg.gb.acceptCallNoCharge, s.cfg.gb.acceptCallSpecial]) :
    decodeGroupB x t s =
      (if t = s.cfg.gb.busyNumber then mfDisconnect x .busyNumber
      else if t = s.cfg.gb.networkCongestion then mfDisconnect x .networkCongestion
      else if t = s.cfg.gb.unallocatedNumber then mfDisconnect x .unallocatedNumber
      else if t = s.cfg.gb.numberChanged then mfDisconnect x .numberChanged
      else if t = s.cfg.gb.lineOutOfOrder then mfDisconnect x .outOfOrder
      else if t = s.cfg.gb.specialInfoTone then mfDisconnect x .unspecified
      else protocolError x .invalidMfTone) s := by
  simp only [List.mem_cons, List.not_mem_nil, or_false, not_or] at h
  obtain ⟨h1, h2, h3⟩ := h
  exact (see_bind _ _).trans (congrFun ((if_neg h1).trans ((if_neg h2).trans (if_neg h3))) _)

end GroupB

/-- Settles O38. -/
theorem forwardSideTakesTheDecision : Obligations.ForwardSideTakesTheDecision := by
  intro t env s hs hr hd hg hst
  have hread : forwardToneOnGroup (topCtx env) t s.mfGroup (heardNow t s) = decodeGroupB (topCtx env) t (heardNow t s) := by
    rw [hg]; rfl
  refine ⟨fun h => exec_toneOn_heard hs hd hst (hread.trans (decodeGroupB_accepts h)) (acceptSeen_heardNow _ hr),
    fun cause hn h => ?_, fun hn => ?_⟩
  · refine exec_toneOn_heard hs hd hst (hread.trans ((decodeGroupB_other (by exact hn)).trans (congrFun ?_ _)))
      (mfDisconnect_heardNow (env := env) cause hr)
    simp only [List.mem_cons, List.not_mem_nil, or_false, not_or] at h
    rcases h with ⟨h, rfl⟩ | ⟨n1, h, rfl⟩ | ⟨⟨n1, n2⟩, h, rfl⟩ | ⟨⟨n1, n2, n3⟩, h, rfl⟩ | ⟨⟨n1, n2, n3, n4⟩, h, rfl⟩ |
      ⟨⟨n1, n2, n3, n4, n5⟩, h, rfl⟩
    · exact if_pos h
    · exact (if_neg n1).trans (if_pos h)
    · exact (if_neg n1).trans ((if_neg n2).trans (if_pos h))
    · exact (if_neg n1).trans ((if_neg n2).trans ((if_neg n3).trans (if_pos h)))
    · exact (if_neg n1).trans ((if_neg n2).trans ((if_neg n3).trans ((if_neg n4).trans (if_pos h))))
    · exact (if_neg n1).trans ((if_neg n2).trans ((if_neg n3).trans ((if_neg n4).trans ((if_neg n5).trans (if_pos h)))))
  · simp only [List.mem_cons, List.not_mem_nil, or_false, not_or] at hn
    obtain ⟨a1, a2, a3, n1, n2, n3, n4, n5, n6⟩ := hn
    refine exec_toneOn_heard hs hd hst (hread.trans ((decodeGroupB_other ?_).trans (congrFun ((if_neg n1).trans
      ((if_neg n2).trans ((if_neg n3).trans ((if_neg n4).trans ((if_neg n5).trans (if_neg n6)))))) _))) (heardNow_error _ hr)
    simp only [List.mem_cons, List.not_mem_nil, or_false, not_or]
    exact ⟨a1, a2, a3⟩

end Sys2Proof.Machine
end

section
/-! PROOFS. TONE_OFF (spec/41_tone_events.md): what is due is sent on the forward side (R220, R222), the phases that end on the
backward side (R206, R226, R227), and the tones no phase has a row for. -/

namespace Sys2Proof.Machine

/-! ### What is sent (R220) -/

section Sending
variable {x : Ctx} {s : State} {d : Digit} {tone : Tone}

theorem digitTone_ne_zero (h : d.toNat ≤ 9) : digitTone d ≠ 0 := by
  unfold digitTone
  split
  · decide
  · rw [if_pos (by simpa [BitVec.le_def] using h)]
    assumption

theorem digitTone_eq_zero (h : 10 ≤ d.toNat) : digitTone d = 0 := by
  unfold digitTone
  rw [if_neg (by rintro rfl; simp at h), if_neg (by rw [BitVec.le_def]; simp; omega)]

theorem readDigit_some {buffer : List Digit} {i : Nat} (h : buffer[i]? = some d) : readDigit buffer i s = .ok d s := by
  unfold readDigit
  rw [h]

theorem sendDue_dnis (hst : s.mfState = .dnisTxd) (hd : s.dnis[s.dnisIndex.toNat]? = some d) :
    sendDue x s = sendDigit x d s := by
  unfold sendDue
  rw [see_bind, hst]
  exact (see_bind _ _).trans (bind_ok (readDigit_some hd))

theorem sendDue_ani (hst : s.mfState = .aniTxd) (hd : s.ani[s.aniPtr.toNat]? = some d) :
    sendDue x s = (sendDigit x d >>= fun _ => upd fun s => { s with aniPtr := s.aniPtr + 1 }) s := by
  unfold sendDue
  rw [see_bind, hst]
  exact (see_bind _ _).trans (bind_ok (readDigit_some hd))

theorem sendDue_dnisEnd (hst : s.mfState = .dnisEndTxd) : sendDue x s = setTone x s.cfg.g1.noMoreDnisAvailable s := by
  unfold sendDue
  rw [see_bind, hst]
  rfl

theorem sendDue_aniEnd (hst : s.mfState = .aniEndTxd) : sendDue x s = setTone x (aniEndTone s) s := by
  unfold sendDue
  rw [see_bind, hst]
  rfl

theorem sendDue_category (hst : s.mfState = .categoryTxd) :
    sendDue x s = (setTone x s.callerCategory >>= fun _ => upd fun s => { s with categorySent := true }) s := by
  unfold sendDue
  rw [see_bind, hst]
  rfl

theorem sendDue_waiting (hst : s.mfState = .waitingTimeout) : sendDue x s = .ok () s := by
  unfold sendDue
  rw [see_bind, hst]
  rfl

theorem sendDue_nothing
    (hst : s.mfState ∉ [MfState.categoryTxd, .dnisTxd, .dnisEndTxd, .aniTxd, .aniEndTxd, .waitingTimeout]) :
    sendDue x s = protocolError x .invalidMfState s := by
  unfold sendDue
  rw [see_bind]
  cases h : s.mfState <;> first | rfl | exact absurd (by simp [h]) hst

theorem sendDigit_tone (h : d.toNat ≤ 9) : sendDigit x d = setTone x (digitTone d) := if_neg (digitTone_ne_zero h)

theorem sendDigit_noTone (h : 10 ≤ d.toNat) : sendDigit x d = protocolError x .invalidMfTone := if_pos (digitTone_eq_zero h)

/-- What is due cannot be flushed (R183, R220). -/
theorem sendDue_failed (hdue : ToneIsDue tone s) (hw : x.env.werr = true) (hn : tone ∉ [0, s.mfWriteTone]) :
    sendDue x s = ioError x .toneFlush s := by
  simp only [List.mem_cons, List.not_mem_nil, or_false, not_or] at hn
  have hfail : setTone x tone s = ioError x .toneFlush s := setTone_failed x tone s hw hn.1 hn.2
  rcases hdue with ⟨d, h9, rfl, ⟨hst, hd⟩ | ⟨hst, hd⟩⟩ | ⟨hst, rfl⟩ | ⟨hst, rfl⟩ | ⟨hst, rfl⟩
  · rw [sendDue_dnis hst hd, sendDigit_tone h9, hfail]
  · rw [sendDue_ani hst hd, sendDigit_tone h9, bind_ioError hfail]
  · rw [sendDue_dnisEnd hst, hfail]
  · exact (sendDue_aniEnd hst).trans hfail
  · rw [sendDue_category hst, bind_ioError hfail]

end Sending

/-! ### How the end of a tone reaches the tone machine (R192) -/

section Entry
variable {env : Env} {s : State}

/-- The channel as the end of a tone is read. -/
def quietNow (s : State) : State := startTrace { s with mfReadTone := 0 }

theorem toneOff_stops (hs : ToneStops s) : ruleOf (.toneOff env) (topCtx env) (startTrace s) =
    (bySide (topCtx env) (backwardToneOff (topCtx env)) (forwardToneOff (topCtx env)) s.direction >>= fun _ => status .ok)
      (quietNow s) := by
  obtain ⟨ha, hl, h0⟩ := hs
  show toneOff (topCtx env) (startTrace s) = _
  unfold toneOff
  rw [see_bind, if_neg (by simp [ha]), if_neg (by simp [hl]), if_neg (by exact h0)]
  rfl

theorem exec_toneOff_backward {m : Act Unit} {u r : State} (hs : ToneStops s) (hd : s.direction = .backward)
    (h : backwardToneOffIn (topCtx env) s.mfState (quietNow s) = m u) (hy : Yields m u r) :
    exec (.toneOff env) s = .next r := by
  have hside : bySide (topCtx env) (backwardToneOff (topCtx env)) (forwardToneOff (topCtx env)) s.direction =
      backwardToneOff (topCtx env) := by rw [hd]; rfl
  exact exec_yields (i := .toneOff env) rfl (toneOff_stops hs) (.of_eq (by rw [hside]; exact h) hy)

theorem exec_toneOff_forward {m : Act Unit} {u r : State} (hs : ToneStops s) (hd : s.direction = .forward)
    (h : forwardToneOff (topCtx env) (quietNow s) = m u) (hy : Yields m u r) :
    exec (.toneOff env) s = .next r := by
  have hside : bySide (topCtx env) (backwardToneOff (topCtx env)) (forwardToneOff (topCtx env)) s.direction =
      forwardToneOff (topCtx env) := by rw [hd]; rfl
  exact exec_yields (i := .toneOff env) rfl (toneOff_stops hs) (.of_eq (by rw [hside]; exact h) hy)

/-- While the exchange goes on, the forward side sends what is due (R222). -/
theorem forwardToneOff_due {x : Ctx} (h : s.mfState ≠ .off) : forwardToneOff x s = sendDue x s :=
  see_neg (c := fun s => s.mfState = .off) h

end Entry

/-- Settles O40. -/
theorem forwardSideSendsWhatIsDue : Obligations.ForwardSideSendsWhatIsDue := by
  intro env s hs hd
  have due : ∀ {st : MfState} {m : Act Unit} {r : State}, s.mfState = st → st ≠ .off →
      sendDue (topCtx env) (quietNow s) = m (quietNow s) → Yields m (quietNow s) r → exec (.toneOff env) s = .next r :=
    fun hst hne h hy => exec_toneOff_forward hs hd ((forwardToneOff_due (by rw [← hst] at hne; exact hne)).trans h) hy
  refine ⟨fun hst => ?_, fun hst => ?_, fun hw => ⟨fun d hst hdig h9 => ?_, fun hst => ?_, fun d hst hdig h9 => ?_,
    fun t hst ht => ?_, fun hst => ?_⟩⟩
  · refine exec_toneOff_forward hs hd (see_pos (c := fun s => s.mfState = .off) hst)
      ((Yields.ok (upd_apply _ _)).to (ended_of_bare (by rfl) ?_ _))
    show bare { released s with mfState := s.mfState } = _
    rw [hst]
    rfl
  · exact due hst (by decide) (m := pure ()) (sendDue_waiting hst) ((Yields.ok rfl).to (ended_of_bare (by rfl) (by rfl) _))
  · exact due hst (by decide) ((sendDue_dnis (by exact hst) (by exact hdig)).trans (congrFun (sendDigit_tone h9) _))
      ((Yields.ok (setTone_toned (topCtx env) _ _ (.inl hw))).to (ended_of_bare (by rfl) (by rfl) _))
  · exact due hst (by decide) (sendDue_dnisEnd hst)
      ((Yields.ok (setTone_toned (topCtx env) _ _ (.inl hw))).to (ended_of_bare (by rfl) (by rfl) _))
  · exact due hst (by decide) (sendDue_ani (by exact hst) (by exact hdig)) (.of_eq (bind_ok
      ((congrFun (sendDigit_tone h9) _).trans (setTone_toned (topCtx env) _ _ (.inl hw))))
        ((Yields.ok (upd_apply _ _)).to (ended_of_bare (by rfl) (by rfl) _)))
  · subst ht
    exact due hst (by decide) (sendDue_aniEnd hst)
      ((Yields.ok (setTone_toned (topCtx env) _ _ (.inl hw))).to (ended_of_bare (by rfl) (by rfl) _))
  · exact due hst (by decide) (sendDue_category hst)
      (.of_eq (bind_ok (setTone_toned (topCtx env) _ _ (.inl hw)))
        ((Yields.ok (upd_apply _ _)).to (ended_of_bare (by rfl) (by rfl) _)))

/-! ### Backward side (R206, R226, R227) -/

section Backward
variable {x : Ctx} {s : State}

theorem acceptToneDone_offered (hc : s.callState = .collecting) (hr : NoReentry s) : acceptToneDone x s =
    .ok () (told (.callOffered s.callerCategory)
      { released s with callState := .offered, out := s.out ++ releaseActions s }) :=
  (upd_bind _ _ _).trans ((upd_bind _ _ _).trans ((see_pos (c := fun s => s.callState = .collecting) (by exact hc)).trans
    ((upd_bind _ _ _).trans ((see_bind _ _).trans (notify_told x _ (by exact hr))))))

theorem acceptToneDone_ready (hc : s.callState ≠ .collecting) :
    acceptToneDone x s = readyToAnswer x { released s with out := s.out ++ releaseActions s } :=
  (upd_bind _ _ _).trans ((upd_bind _ _ _).trans (see_neg (c := fun s => s.callState = .collecting) (by exact hc)))

theorem disconnectToneDone_ok (hw : x.env.werr = false) : disconnectToneDone x s =
    .ok ()
      { released (transmitted .clearBack s) with
        casState := .clearBackTxd, armed := withoutTimers [.mfBackCycle] s.armed
        out := s.out ++ lineActions s.cfg .clearBack ++ cancelsOf [.mfBackCycle] s ++ releaseActions s } := by
  unfold disconnectToneDone
  rw [bind_ok (txSignal_sent .clearBack hw s), upd_bind, cancel_eq]
  rfl

/-- A phase that only mutes its own tone (R206). -/
theorem backwardToneOffIn_mutes {st : MfState}
    (h : st ∈ [MfState.seizeAckTxd, .categoryRqTxd, .dnisRqTxd, .aniRqTxd, .chgGiiTxd]) :
    backwardToneOffIn x st = setTone x 0 := by
  simp only [List.mem_cons, List.not_mem_nil, or_false] at h
  rcases h with rfl | rfl | rfl | rfl | rfl <;> rfl

end Backward

/-- Settles O41. -/
theorem backwardSideFinishesPhases : Obligations.BackwardSideFinishesPhases := by
  intro env s freed freedSent hs hr hd
  have row : ∀ {st : MfState} {m : Act Unit} {u r : State}, s.mfState = st →
      backwardToneOffIn (topCtx env) st (quietNow s) = m u → Yields m u r → exec (.toneOff env) s = .next r :=
    fun hst h hy => exec_toneOff_backward hs hd (by rw [hst]; exact h) hy
  have accepted : ∀ {m : Act Unit} {u r : State}, s.mfState = .acceptedTxd →
      acceptToneDone (topCtx env) (cancel .mfBackCycle (quietNow s)) = m u → Yields m u r →
      exec (.toneOff env) s = .next r := fun hst h hy => row hst ((upd_bind _ _ _).trans h) hy
  simp only [cancel_eq] at accepted
  refine ⟨fun hst => ?_, fun hst => ?_, fun hst hc => ?_, fun hst hc h0 => ?_, fun hst hc h0 => ?_, fun hst hw => ?_⟩
  · exact row rfl (congrFun (backwardToneOffIn_mutes hst) _)
      ((Yields.ok (setTone_toned (topCtx env) 0 _ (.inr (.inl rfl)))).to (ended_of_bare (by rfl) (by rfl) _))
  · exact row hst (m := pure ()) rfl ((Yields.ok rfl).to (ended_of_bare (by rfl) (by rfl) _))
  · exact accepted hst rfl
      ((Yields.ok (acceptToneDone_offered (by exact hc) (by exact hr))).to (ended_of_bare (by rfl) (by rfl) _))
  · exact accepted hst (acceptToneDone_ready (by exact hc))
      ((Yields.ok (readyToAnswer_now (by exact h0) (by exact hr))).to (ended_of_bare (by rfl) (by rfl) _))
  · refine accepted hst (acceptToneDone_ready (by exact hc)) ((Yields.ok (readyToAnswer_later (by exact h0))).to
      (ended_of_bare ?_ (by rfl) _))
    exact congrArg (_ ++ ·) (armActions_without (s := s) (us := [.mfBackCycle]) (by rfl) (by rfl) (by decide))
  · exact row hst rfl ((Yields.ok (disconnectToneDone_ok hw)).to (ended_of_bare (by rfl) (by rfl) _))

/-! ### Tones without a row (R189) -/

section NoRow
variable {x : Ctx} {t : Tone} {s : State}

theorem bySide_none {d : Direction} {b f : Act Unit} (h : d ∉ [Direction.backward, .forward]) :
    bySide x b f d = protocolError x .invalidMfState := by
  cases d <;> first | rfl | exact absurd (by simp) h

theorem backwardGroupToneOn_none {st : MfState}
    (h : st ∉ [MfState.dnisRqTxd, .categoryRqTxd, .aniRqTxd, .chgGiiTxd]) :
    backwardGroupToneOn x t st = protocolError x .invalidMfState := by
  cases st <;> first | rfl | exact absurd (by simp) h

/-- The phases that read no tone (R195). -/
theorem backwardToneOnGroup_invalid
    (h : (s.mfGroup = .backInit ∧ s.mfState ≠ .seizeAckTxd) ∨ s.mfGroup = .gb ∨
      (s.mfGroup ∈ [MfGroup.ga, .gc] ∧ s.mfState ∉ [MfState.dnisRqTxd, .categoryRqTxd, .aniRqTxd, .chgGiiTxd]))
    {u : State} (hu : u.mfState = s.mfState) :
    backwardToneOnGroup x t s.mfState s.mfGroup u = protocolError x .invalidMfState u := by
  rcases h with ⟨hg, hst⟩ | hg | ⟨hg, hst⟩
  · rw [hg]
    exact see_neg (c := fun s => s.mfState = .seizeAckTxd) (by rwa [hu])
  · rw [hg]
    rfl
  · rw [backwardToneOnGroup_phase hg, backwardGroupToneOn_none hst]

theorem backwardToneOnGroup_none {st : MfState} {g : MfGroup}
    (h : g ∉ [MfGroup.backInit, .ga, .gb, .gc, .dtmfBackInit]) :
    backwardToneOnGroup x t st g = protocolError x .invalidMfGroup := by
  cases g <;> first | rfl | exact absurd (by simp) h

theorem forwardToneOnGroup_none {g : MfGroup} (h : g ∉ [MfGroup.gi, .gii, .giii]) :
    forwardToneOnGroup x t g = protocolError x .invalidMfGroup := by
  cases g <;> first | rfl | exact absurd (by simp) h

theorem backwardToneOffIn_none {st : MfState}
    (h : st ∉ [MfState.seizeAckTxd, .categoryRqTxd, .dnisRqTxd, .aniRqTxd, .chgGiiTxd, .acceptedTxd, .disconnectTxd,
      .detectingDtmf]) : backwardToneOffIn x st = protocolError x .invalidMfState := by
  cases st <;> first | rfl | exact absurd (by simp) h

theorem inForwardGroup_iff : inForwardGroup s = true ↔ s.mfGroup ∈ [MfGroup.gi, .gii, .giii] := by
  simp [inForwardGroup, or_assoc]

end NoRow

/-- Settles O39. -/
theorem tonesOutOfPhaseAreErrors : Obligations.TonesOutOfPhaseAreErrors := by
  intro t env s noted quiet hr
  have error : ∀ {kind : ErrorKind} {acts : List Action} {u v : State}, u.resp = s.resp → u.out = acts → bare u = bare v →
      Yields (protocolError (topCtx env) kind) u (errorEnded kind env acts v) := fun hresp hacts hb =>
    (Yields.protocolError (x := topCtx env) rfl (hr.of_resp hresp)).to (errorEnded_of_bare hacts hb _ _)
  refine ⟨fun hs => ⟨fun hd => ?_, fun hd => ⟨fun h => ?_, fun hg => ?_, fun hg => ?_⟩, fun hd => ⟨fun hg hst => ?_,
    fun hg => ?_⟩⟩, fun hs => ⟨fun h => ?_, fun d hd h10 h => ?_⟩⟩
  · exact exec_yields (i := .toneOn t env) (toneOn_wf hs) ((toneOn_new hs).trans (by rw [bySide_none hd]))
      (error (by rfl) (by rfl) (by rfl))
  · exact exec_toneOn_backward hs hd (backwardToneOnGroup_invalid h (by rfl)) (error (by rfl) (by rfl) (by rfl))
  · refine exec_toneOn_backward hs hd (m := pure ()) (congrFun (by rw [hg]; rfl) _)
      ((Yields.ok rfl).to (ended_of_bare (by rfl) (by rfl) _))
  · exact exec_toneOn_backward hs hd (congrFun (backwardToneOnGroup_none hg) _) (error (by rfl) (by rfl) (by rfl))
  · exact exec_yields (i := .toneOn t env) (toneOn_wf hs)
      ((toneOn_forward hs hd).trans (by rw [if_pos ⟨hst, inForwardGroup_iff.mpr hg⟩])) (error (by rfl) (by rfl) (by rfl))
  · exact exec_yields (i := .toneOn t env) (toneOn_wf hs)
      ((toneOn_forward hs hd).trans (by rw [if_neg fun e => hg (inForwardGroup_iff.mp e.2), forwardToneOnGroup_none hg]))
      (error (by rfl) (by rfl) (by rfl))
  · rcases h with h | ⟨hd, h⟩ | ⟨hd, h⟩
    · exact exec_yields (i := .toneOff env) rfl ((toneOff_stops hs).trans (by rw [bySide_none h]))
        (error (by rfl) (by rfl) (by rfl))
    · exact exec_toneOff_backward hs hd (congrFun (backwardToneOffIn_none h) _) (error (by rfl) (by rfl) (by rfl))
    · rw [List.mem_cons, not_or] at h
      exact exec_toneOff_forward hs hd ((forwardToneOff_due (by exact h.1)).trans (sendDue_nothing (by exact h.2)))
        (error (by rfl) (by rfl) (by rfl))
  · have hrun : forwardToneOff (topCtx env) (quietNow s) = protocolError (topCtx env) .invalidMfTone (quietNow s) := by
      rcases h with ⟨hst, hdig⟩ | ⟨hst, hdig⟩
      · refine (forwardToneOff_due (by simp [quietNow, hst])).trans ((sendDue_dnis (by exact hst) (by exact hdig)).trans ?_)
        rw [sendDigit_noTone h10]
      · refine (forwardToneOff_due (by simp [quietNow, hst])).trans ((sendDue_ani (by exact hst) (by exact hdig)).trans ?_)
        rw [sendDigit_noTone h10, protocolError_bind]
    exact exec_toneOff_forward hs hd hrun (error (by rfl) (by rfl) (by rfl))

end Sys2Proof.Machine
end

section
/-! PROOFS. DTMF_DIGIT (spec/41_tone_events.md section 4) and the expiries of the call timers (spec/42_timer_events.md
section 2). -/

namespace Sys2Proof.Machine

/-! ### DTMF_DIGIT (R230, R231) -/

section Dtmf
variable {x : Ctx} {d : Digit} {env : Env} {s : State}

theorem dtmfDigit_live (ha : s.alarm = false) (hl : s.dtmfRxLive = true) :
    dtmfDigit d x s = (dtmfDigitIn x d s.mfState s.mfGroup >>= fun _ => status .ok) s := by
  unfold dtmfDigit
  rw [see_bind, if_neg (by simp [ha]), if_neg (by simp [hl])]

theorem dtmfCollected_ok (hr : NoReentry s) : dtmfCollected x s =
    .ok () (told (.callOffered 0) { s with dnisDone := true, mfState := .off, callState := .offered }) :=
  (upd_bind _ _ _).trans (notify_told x _ (by exact hr))

/-- A digit for which there is room: stored, reported, and then the test for the end (R230). -/
theorem receiveDtmf_stored (hlt : s.dnisLen < s.cfg.maxDnis.toNat) (hr : NoReentry s) : receiveDtmf x d s =
    afterDtmfDigit x (respStop (s.resp.headD 0)) (told (.dnisDigitReceived d) (appendDnis d s)) :=
  (see_pos (c := fun s => s.dnisLen < s.cfg.maxDnis.toNat) hlt).trans ((upd_bind _ _ _).trans
    (bind_ok (emitGuarded_told x _ (by exact hr))))

theorem receiveDtmf_full (hge : s.cfg.maxDnis.toNat ≤ s.dnisLen) : receiveDtmf x d s = dtmfCollected x s :=
  see_neg (c := fun s => s.dnisLen < s.cfg.maxDnis.toNat) (by omega)

theorem afterDtmfDigit_waits {stop : Bool} (h : dtmfWaits stop s = true) : afterDtmfDigit x stop s = .ok () s :=
  see_pos (c := fun s => dtmfWaits stop s = true) h

theorem afterDtmfDigit_ends {stop : Bool} (h : dtmfWaits stop s = false) : afterDtmfDigit x stop s = dtmfCollected x s :=
  see_neg (c := fun s => dtmfWaits stop s = true) (by simp [h])

/-- Whether collection goes on after a digit is stored (R230). -/
theorem dtmfWaits_stored (stop : Bool) (ev : Event) :
    dtmfWaits stop (told ev (appendDnis d s)) = (!stop && decide (s.dnisLen + 1 < s.cfg.maxDnis.toNat)) := by
  have hlen : (told ev (appendDnis d s)).dnisLen = s.dnisLen + 1 := List.length_append
  unfold dtmfWaits
  rw [hlen]
  rfl

/-- The phases that collect DTMF digits (R230). -/
def CollectsDtmf (s : State) : Prop :=
  (s.mfGroup = .backInit ∧ s.mfState = .seizeAckTxd) ∨ (s.mfGroup = .dtmfBackInit ∧ s.mfState = .detectingDtmf)

theorem dtmfDigitIn_collects (h : CollectsDtmf s) : dtmfDigitIn x d s.mfState s.mfGroup s =
    receiveDtmf x d { s with mfGroup := .dtmfBackInit, mfState := .detectingDtmf } := by
  rcases h with ⟨hg, hst⟩ | ⟨hg, hst⟩
  · rw [hg]
    exact see_pos (c := fun s => s.mfState = .seizeAckTxd) hst
  · have he : { s with mfGroup := .dtmfBackInit, mfState := .detectingDtmf } = s := by rw [← hg, ← hst]
    rw [he, hg, hst]
    rfl

theorem dtmfDigitIn_drops (h : ¬ CollectsDtmf s) : dtmfDigitIn x d s.mfState s.mfGroup s = .ok () s := by
  unfold CollectsDtmf at h
  cases hg : s.mfGroup
  case backInit => exact see_neg (c := fun s => s.mfState = .seizeAckTxd) (by tauto)
  case dtmfBackInit => exact congrFun (if_neg (by tauto)) s
  all_goals rfl

end Dtmf

/-- Settles O42. -/
theorem dtmfDigitsAreCollected : Obligations.DtmfDigitsAreCollected := by
  intro d env s ha hl hr
  have entry : ∀ {m : Act Unit} {u r : State}, dtmfDigitIn (topCtx env) d s.mfState s.mfGroup (startTrace s) = m u →
      Yields m u r → exec (.dtmfDigit d env) s = .next r := fun h hy =>
    exec_yields (i := .dtmfDigit d env) rfl (dtmfDigit_live (s := startTrace s) ha hl) (.of_eq h hy)
  refine ⟨fun hph => ?_, fun hph => ?_⟩
  · have hrun := dtmfDigitIn_collects (x := topCtx env) (d := d) (s := startTrace s) hph
    refine ⟨fun hlt hstop => ?_, fun hend => ?_, fun hge => ?_⟩
    · refine entry (m := pure ()) ((hrun.trans (receiveDtmf_stored (by exact Nat.lt_of_succ_lt hlt) (by exact hr))).trans
        (afterDtmfDigit_waits ?_)) ((Yields.ok rfl).to (ended_of_bare (by rfl) (by rfl) _))
      rw [dtmfWaits_stored]
      simp only [Bool.and_eq_true, Bool.not_eq_true', decide_eq_true_eq]
      exact ⟨hstop, hlt⟩
    · have hlt : s.dnisLen < s.cfg.maxDnis.toNat := by omega
      refine entry ((hrun.trans (receiveDtmf_stored (by exact hlt) (by exact hr))).trans (afterDtmfDigit_ends ?_))
        ((Yields.ok (dtmfCollected_ok (NoReentry.of_tail hr (by rfl)))).to (ended_of_bare (by rfl) (by rfl) _))
      rw [dtmfWaits_stored]
      simp only [Bool.and_eq_false_iff, Bool.not_eq_false', decide_eq_false_iff_not]
      rcases hend with hmax | ⟨-, hstop⟩
      · exact .inr (by exact not_lt_of_ge hmax.ge)
      · exact .inl hstop
    · exact entry (hrun.trans (receiveDtmf_full (by exact hge)))
        ((Yields.ok (dtmfCollected_ok (by exact hr))).to (ended_of_bare (by rfl) (by rfl) _))
  · exact entry (m := pure ()) (dtmfDigitIn_drops (s := startTrace s) hph) ((Yields.ok rfl).to (ended_of_bare (by rfl) (by rfl) _))

/-! ### Cancelled timers as sets -/

section Timers
variable {s t : State} {us vs ts : List Timer}

theorem exists_timer_index {i : Nat} (h : i < 12) : ∃ u : Timer, u.index = i := by
  interval_cases i
  exacts [⟨.seize, rfl⟩, ⟨.seizePersist, rfl⟩, ⟨.answer, rfl⟩, ⟨.answerDelay, rfl⟩, ⟨.doubleAnswer, rfl⟩,
    ⟨.setCallDown, rfl⟩, ⟨.meteringPulse, rfl⟩, ⟨.mfBackCycle, rfl⟩, ⟨.mfBackResumeCycle, rfl⟩, ⟨.mfFwdSafety, rfl⟩,
    ⟨.dtmfStartDial, rfl⟩, ⟨.casPersistenceCheck, rfl⟩]

/-- Which timers are cancelled counts, not how often or in which order. -/
theorem withoutTimers_congr (h : ∀ u, u ∈ us ↔ u ∈ vs) (a : BitVec 12) : withoutTimers us a = withoutTimers vs a := by
  apply BitVec.eq_of_getLsbD_eq
  intro i hi
  obtain ⟨u, rfl⟩ := exists_timer_index hi
  rw [withoutTimers_getLsbD, withoutTimers_getLsbD, decide_eq_decide.mpr (h u)]

/-- A timer that was live, cancelled and armed again. -/
theorem withoutTimers_rearmed {u : Timer} (h : isArmed u s = true) :
    withoutTimers [u] s.armed ||| timerBit u = s.armed := by
  apply BitVec.eq_of_getLsbD_eq
  intro i hi
  obtain ⟨v, rfl⟩ := exists_timer_index hi
  rw [BitVec.getLsbD_or, withoutTimers_getLsbD, timerBit_getLsbD]
  by_cases e : v = u
  · subst e
    simpa [isArmed] using h.symm
  · simp [e]

/-- Of several timers only those not cancelled before are cancelled. -/
theorem cancelsOf_left (us : List Timer) (ha : t.armed = withoutTimers us s.armed) (ts : List Timer) :
    cancelsOf ts t = cancelsOf (ts.filter (· ∉ us)) s := by
  unfold cancelsOf
  rw [List.filter_filter]
  congr 1
  refine List.filter_congr fun u _ => ?_
  rw [isArmed, ha, withoutTimers_getLsbD]
  by_cases hu : u ∈ us <;> simp [hu, isArmed]

end Timers

/-! ### How an expiry reaches its rule (R244) -/

section Entry
variable {tm : Timer} {effect : Ctx → Act Unit} {s : State}

/-- The channel as the effect of an expiry runs. -/
def firedNow (tm : Timer) (s : State) : State := { s with armed := withoutTimers [tm] s.armed, out := [] }

theorem timerExp_fires (x : Ctx) (h : Expires tm s) :
    timerExp tm effect x (startTrace s) = (effect x >>= fun _ => status .ok) (firedNow tm s) := by
  obtain ⟨ha, harm⟩ := h
  unfold timerExp
  rw [see_bind, if_neg (by simp [ha]), if_neg (by rw [isArmed] at harm ⊢; simp [harm])]
  rfl

/-- An expiry, from what its effect does. -/
theorem exec_expiry {i : Instr} {m : Act Unit} {u r : State} (hi : ruleOf i = timerExp tm effect)
    (ht : expiredTimer i = some tm) (hE : Expires tm s) (h : effect (topCtx (envOf i)) (firedNow tm s) = m u)
    (hy : Yields m u r) : exec i s = .next r :=
  exec_yields (expiredTimer_wf ht) ((congrFun (congrFun hi _) _).trans (timerExp_fires _ hE)) (.of_eq h hy)

/-- An expiry that is a protocol error (R331). -/
theorem exec_expiry_error {i : Instr} {kind : ErrorKind} (hi : ruleOf i = timerExp tm effect)
    (ht : expiredTimer i = some tm) (hE : Expires tm s) (hr : NoReentry s)
    (h : effect (topCtx (envOf i)) (firedNow tm s) = protocolError (topCtx (envOf i)) kind (firedNow tm s)) :
    exec i s = .next (errorEnded kind (envOf i) [] (fired tm s)) :=
  exec_expiry hi ht hE h ((Yields.protocolError (x := topCtx (envOf i)) rfl (by exact hr)).to
    (errorEnded_of_bare (by rfl) (by rfl) _ _))

end Entry

theorem inGlare_iff (s : State) : inGlare s = true ↔ s.casState ∈ [CasState.doubleSeizure, .doubleSeizureClearFwdPending] := by
  simp [inGlare]

/-- Settles O43. -/
theorem timeoutsTakeTheErrorPath : Obligations.TimeoutsTakeTheErrorPath := by
  intro env s ha hr
  refine ⟨fun h => ?_, fun h => ?_, fun h hc => ?_, fun h hc => ?_, fun h hc => ?_, fun h hc => ?_, fun h hc => ?_,
    fun h hc => ?_⟩
  · refine exec_expiry_error (i := .timerExpSeize env) rfl rfl ⟨ha, h⟩ hr ?_
    split
    next hc => exact see_pos (c := fun s => s.casState = .seizeTxd) hc
    next hc => exact see_neg (c := fun s => s.casState = .seizeTxd) hc
  · exact exec_expiry_error (i := .timerExpMfFwdSafety env) rfl rfl ⟨ha, h⟩ hr rfl
  · exact exec_expiry_error (i := .timerExpSeizePersist env) rfl rfl ⟨ha, h⟩ hr
      (see_neg (c := fun s => inGlare s = true) (mt (inGlare_iff _).mp hc))
  · exact exec_expiry_error (i := .timerExpAnswer env) rfl rfl ⟨ha, h⟩ hr
      (see_neg (c := fun s => s.casState = .acceptRxd ∨ s.casState = .seizeAckRxd)
        (show ¬ (s.casState = .acceptRxd ∨ s.casState = .seizeAckRxd) by simpa using hc))
  · exact exec_expiry_error (i := .timerExpAnswerDelay env) rfl rfl ⟨ha, h⟩ hr
      (see_neg (c := fun s => s.casState = .seizeAckTxd ∧ s.callState = .offered) hc)
  · refine exec_expiry_error (i := .timerExpDoubleAnswer env) rfl rfl ⟨ha, h⟩ hr ?_
    by_cases hcas : s.casState = .executingDoubleAnswer
    · have hsig : ¬ s.txSig = some .answer ∧ ¬ s.txSig = some .clearBack := by simpa [hcas] using hc
      refine (see_neg (c := fun s => s.casState ≠ .executingDoubleAnswer) (by exact not_not.mpr hcas)).trans
        (congrFun ((if_neg (by exact hsig.1)).trans (if_neg (by exact hsig.2))) _)
    · exact see_pos (c := fun s => s.casState ≠ .executingDoubleAnswer) hcas
  · exact exec_expiry_error (i := .timerExpMeteringPulse env) rfl rfl ⟨ha, h⟩ hr
      (see_pos (c := fun s => s.casState ≠ .answerRxd) hc)
  · exact exec_expiry_error (i := .timerExpDtmfStartDial env) rfl rfl ⟨ha, h⟩ hr
      (see_neg (c := fun s => s.casState = .seizeAckRxd ∧ s.mfGroup = .dtmfFwdInit) hc)

end Sys2Proof.Machine
end

section
/-! PROOFS. The expiries that act (spec/42_timer_events.md R251 to R258, R260). -/

namespace Sys2Proof.Machine

section Effects
variable {x : Ctx} {s : State}

/-- R252. -/
theorem noAnswer_ok (hw : x.env.werr = false) (hr : NoReentry s) : noAnswer x s =
    .ok () (told (.callDisconnect .noAnswer)
      { released (transmitted .clearForward s) with
        casState := .clearForwardTxd, callState := .disconnected
        armed := withoutTimers [.dtmfStartDial] s.armed ||| timerBit .setCallDown
        out := s.out ++ lineActions s.cfg .clearForward ++ cancelsOf [.dtmfStartDial] s ++ releaseActions s ++
          armActions .setCallDown s }) := by
  unfold noAnswer
  rw [bind_ok (txSignal_sent .clearForward hw s), upd_bind, upd_bind, upd_bind, cancel_eq,
    arm_without (s := s) [.dtmfStartDial] (by rfl) (by rfl) (by decide)]
  exact notify_told x _ (by exact hr)

theorem toggleOff_ok (hw : x.env.werr = false) : toggleOff x s =
    .ok ()
      { transmitted .clearBack s with
        armed := s.armed ||| timerBit .doubleAnswer
        out := s.out ++ lineActions s.cfg .clearBack ++ armActions .doubleAnswer s } := by
  unfold toggleOff
  rw [bind_ok (txSignal_sent .clearBack hw s), upd_apply, arm_eq]
  rfl

theorem toggleOn_ok (hw : x.env.werr = false) : toggleOn x s =
    .ok () { transmitted .answer s with casState := .answerTxd, out := s.out ++ lineActions s.cfg .answer } := by
  unfold toggleOn
  rw [bind_ok (txSignal_sent .answer hw s)]
  rfl

theorem expireDoubleAnswer_toggles (hc : s.casState = .executingDoubleAnswer) : expireDoubleAnswer x s =
    (if s.txSig = some .answer then toggleOff x
    else if s.txSig = some .clearBack then toggleOn x
    else protocolError x .invalidR2State) s :=
  see_neg (c := fun s => s.casState ≠ .executingDoubleAnswer) (not_not.mpr hc)

theorem expireMeteringPulse_disconnects {sig : Signal} {cause : Cause} (hc : s.casState = .answerRxd)
    (hcl : classify s.cfg s.rxCode = some (sig, cause)) : expireMeteringPulse x s = handleDisconnect x sig cause s := by
  refine (see_neg (c := fun s => s.casState ≠ .answerRxd) (not_not.mpr hc)).trans ?_
  rw [hcl]

theorem expireMeteringPulse_unclassified (hc : s.casState = .answerRxd) (hcl : classify s.cfg s.rxCode = none) :
    expireMeteringPulse x s = protocolError x .invalidCasBits s := by
  refine (see_neg (c := fun s => s.casState ≠ .answerRxd) (not_not.mpr hc)).trans ?_
  rw [hcl]

end Effects

/-- Settles O44. -/
theorem clearingTimersAct : Obligations.ClearingTimersAct := by
  intro env s sent freedSent ha hr hw
  have again : withoutTimers [.seizePersist] (withoutTimers [.seizePersist] s.armed) = withoutTimers [.seizePersist] s.armed := by
    rw [← withoutTimers_append]
    exact withoutTimers_congr (by simp) _
  have gone : cancelsOf [.seizePersist] (firedNow .seizePersist s) = [] := cancelsOf_left [.seizePersist] (by rfl) _
  have hbase : baselineActions (fired .seizePersist (firedNow .seizePersist s)) = baselineActions (fired .seizePersist s) :=
    baselineActions_congr rfl rfl again
  refine ⟨fun h hc => ?_, fun h hc => ?_, fun h hc => ?_, fun h => ?_⟩
  · refine exec_expiry (i := .timerExpSeizePersist env) rfl rfl ⟨ha, h⟩
      (see_pos (c := fun s => inGlare s = true) ((inGlare_iff _).mpr (by simp [firedNow, hc])))
      ((Yields.ok (localClearForward_glare hw (by exact hc))).to (ended_of_bare ?_ ?_ _))
    · show [] ++ lineActions s.cfg .clearForward ++ cancelsOf [.seizePersist] (firedNow .seizePersist s) ++
        armActions .setCallDown (firedNow .seizePersist s) = _
      rw [gone, armActions_without (t := firedNow .seizePersist s) (s := s) (us := [.seizePersist]) rfl rfl (by decide),
        List.append_nil]
      rfl
    · exact congrArg (fun a => bare { transmitted .clearForward s with
        casState := .clearForwardTxd, armed := a ||| timerBit .setCallDown }) again
  · refine exec_expiry (i := .timerExpSeizePersist env) rfl rfl ⟨ha, h⟩
      (see_pos (c := fun s => inGlare s = true) ((inGlare_iff _).mpr (by simp [firedNow, hc])))
      ((Yields.ok (localClearForward_cleared hw (by exact hc) (by exact hr))).to (ended_of_bare ?_ (by rfl) _))
    show [] ++ lineActions s.cfg .clearForward ++ cancelsOf [.seizePersist] (firedNow .seizePersist s) ++
      lineActions s.cfg .idle ++ baselineActions (fired .seizePersist (firedNow .seizePersist s)) ++ _ = _
    rw [gone, hbase, List.append_nil]
    rfl
  · refine exec_expiry (i := .timerExpAnswer env) rfl rfl ⟨ha, h⟩
      (see_pos (c := fun s => s.casState = .acceptRxd ∨ s.casState = .seizeAckRxd)
        (show s.casState = .acceptRxd ∨ s.casState = .seizeAckRxd by simpa using hc))
      ((Yields.ok (noAnswer_ok hw (by exact hr))).to (ended_of_bare ?_ (by rfl) _))
    show [] ++ lineActions s.cfg .clearForward ++ cancelsOf [.dtmfStartDial] (firedNow .answer s) ++ releaseActions s ++
      armActions .setCallDown (firedNow .answer s) ++ _ = _
    rw [cancelsOf_left (t := firedNow .answer s) [.answer] (s := s) rfl,
      armActions_without (t := firedNow .answer s) (s := s) (us := [.answer]) rfl rfl (by decide)]
    rfl
  · refine exec_expiry (i := .timerExpSetCallDown env) (m := endCall (topCtx env)) rfl rfl ⟨ha, h⟩ rfl
      ((Yields.ok (endCall_ok (s := firedNow .setCallDown s) hw (by exact hr))).to (ended_of_bare ?_ ?_ _))
    · exact congrArg (lineActions s.cfg .idle ++ · ++ [Action.evt .callEnd])
        (baselineActions_congr (s := fired .setCallDown s) (t := firedNow .setCallDown s) rfl rfl rfl)
    · rfl

/-- Settles O45. -/
theorem answerTimersAct : Obligations.AnswerTimersAct := by
  intro env s expired sentExpired freed dialled ha hr
  refine ⟨fun h hc hcall => ?_, fun h hc hw => ⟨fun hsig => ?_, fun hsig => ?_⟩, fun sig cause h hc hcl => ?_, fun h hc hcl => ?_,
    fun h hc hg => ⟨fun hi => ?_, fun hi => ?_⟩⟩
  · exact exec_expiry (i := .timerExpAnswerDelay env) rfl rfl ⟨ha, h⟩
      (see_pos (c := fun s => s.casState = .seizeAckTxd ∧ s.callState = .offered) (by exact ⟨hc, hcall⟩))
      ((Yields.ok (acceptedNow_ok (by exact hr))).to (ended_of_bare (by rfl) (by rfl) _))
  · refine exec_expiry (i := .timerExpDoubleAnswer env) rfl rfl ⟨ha, h⟩
      ((expireDoubleAnswer_toggles (by exact hc)).trans (congrFun (if_pos (by exact hsig)) _))
      ((Yields.ok (toggleOff_ok hw)).to (ended_of_bare ?_ ?_ _))
    · exact congrArg (lineActions s.cfg .clearBack ++ ·)
        (armActions_cancelled (s := s) (us := [.doubleAnswer]) (by rfl) (by rfl) (by decide))
    · exact congrArg (fun a => bare { transmitted .clearBack s with armed := a }) (withoutTimers_rearmed h)
  · exact exec_expiry (i := .timerExpDoubleAnswer env) rfl rfl ⟨ha, h⟩
      ((expireDoubleAnswer_toggles (by exact hc)).trans
        (congrFun ((if_neg (show ¬ s.txSig = _ by simp [hsig])).trans (if_pos (by exact hsig))) _))
      ((Yields.ok (toggleOn_ok hw)).to (ended_of_bare (by rfl) (by rfl) _))
  · refine exec_expiry (i := .timerExpMeteringPulse env) rfl rfl ⟨ha, h⟩
      (expireMeteringPulse_disconnects (by exact hc) (by exact hcl))
      ((Yields.ok (handleDisconnect_ok sig cause (by exact hr))).to (ended_of_bare ?_ ?_ _))
    · show [] ++ cancelsOf disconnectTimers (firedNow .meteringPulse s) ++ _ ++ _ = _
      rw [cancelsOf_left (t := firedNow .meteringPulse s) [.meteringPulse] (s := s) rfl]
      rfl
    · have left : withoutTimers disconnectTimers (withoutTimers [.meteringPulse] s.armed) =
          withoutTimers [.meteringPulse, .answer, .mfFwdSafety, .dtmfStartDial] s.armed := by
        rw [← withoutTimers_append]
        exact withoutTimers_congr (by simp [disconnectTimers]; tauto) _
      simp only [bare, told, released, firedNow, disconnectedCas, left, freed]
  · exact exec_expiry_error (i := .timerExpMeteringPulse env) rfl rfl ⟨ha, h⟩ hr
      (expireMeteringPulse_unclassified (by exact hc) (by exact hcl))
  · refine exec_expiry (i := .timerExpDtmfStartDial env) rfl rfl ⟨ha, h⟩
      (m := upd fun s => { acquireDtmfTx s with mfState := .dialingDtmf })
      ((see_pos (c := fun s => s.casState = .seizeAckRxd ∧ s.mfGroup = .dtmfFwdInit) (by exact ⟨hc, hg⟩)).trans
        (bind_ok (congrFun (if_neg (show ¬ env.ierr = true by simp [hi])) _)))
      ((Yields.ok (upd_apply _ _)).to (ended_of_bare (by rfl) (by rfl) _))
  · exact exec_expiry_error (i := .timerExpDtmfStartDial env) rfl rfl ⟨ha, h⟩ hr
      ((see_pos (c := fun s => s.casState = .seizeAckRxd ∧ s.mfGroup = .dtmfFwdInit) (by exact ⟨hc, hg⟩)).trans
        (bind_protocolError (congrFun (if_pos (by exact hi)) _)))

/-! ### The cycle timers (R257, R258) -/

section Cycle
variable {x : Ctx} {s : State}

theorem expireMfBackCycle_dnis (hd : s.direction = .backward) (h0 : s.mfReadTone = 0) (hst : s.mfState = .dnisRqTxd)
    (ht : s.cfg.g1.noMoreDnisAvailable = 0) : expireMfBackCycle x s = nextRequest x true { s with dnisDone := true } :=
  see_pos (c := fun s => s.direction = .backward ∧ s.mfReadTone = 0 ∧ s.mfState = .dnisRqTxd ∧
    s.cfg.g1.noMoreDnisAvailable = 0) ⟨hd, h0, hst, ht⟩

theorem expireMfBackCycle_ani (hd : s.direction = .backward) (h0 : s.mfReadTone = 0) (hst : s.mfState = .aniRqTxd)
    (ht : s.cfg.g1.noMoreAniAvailable = 0) : expireMfBackCycle x s = nextRequest x true { s with aniDone := true } := by
  unfold expireMfBackCycle
  rw [see_bind, if_neg (by simp [hst]), if_pos ⟨hd, h0, hst, ht⟩]
  rfl

theorem expireMfBackCycle_timeout
    (h : ¬ (s.direction = .backward ∧ s.mfReadTone = 0 ∧
      ((s.mfState = .dnisRqTxd ∧ s.cfg.g1.noMoreDnisAvailable = 0) ∨
        (s.mfState = .aniRqTxd ∧ s.cfg.g1.noMoreAniAvailable = 0)))) :
    expireMfBackCycle x s = protocolError x .backMfTimeout s := by
  unfold expireMfBackCycle
  rw [see_bind, if_neg (by tauto), if_neg (by tauto)]

theorem expireMfBackResumeCycle_cycles (hst : s.mfState ≠ .acceptedTxd) :
    expireMfBackResumeCycle x s = .ok () (arm .mfBackCycle (toned 0 s)) :=
  (bind_ok (setTone_toned x 0 s (.inr (.inl rfl)))).trans (see_neg (c := fun s => s.mfState = .acceptedTxd) hst)

theorem expireMfBackResumeCycle_accepted (hst : s.mfState = .acceptedTxd) :
    expireMfBackResumeCycle x s = acceptToneDone x (toned 0 s) :=
  (bind_ok (setTone_toned x 0 s (.inr (.inl rfl)))).trans (see_pos (c := fun s => s.mfState = .acceptedTxd) hst)

end Cycle

/-- Settles O46. -/
theorem cycleTimersAct : Obligations.CycleTimersAct := by
  intro env s expired resumed freed resumedActions ha hr
  have hrel : releaseActions (toned 0 (firedNow .mfBackResumeCycle s)) = releaseActions { s with mfWriteTone := 0 } :=
    releaseActions_congr rfl rfl
  have accepted : ∀ {r : State}, s.mfState = .acceptedTxd → isArmed .mfBackResumeCycle s = true →
      Yields (acceptToneDone (topCtx env)) (toned 0 (firedNow .mfBackResumeCycle s)) r →
      exec (.timerExpMfBackResumeCycle env) s = .next r := fun hst h hy =>
    exec_expiry (i := .timerExpMfBackResumeCycle env) rfl rfl ⟨ha, h⟩ (expireMfBackResumeCycle_accepted (by exact hst)) hy
  refine ⟨fun h hd h0 => ⟨fun hst ht => ?_, fun hst ht => ?_⟩, fun h hn => ?_, fun h => ⟨fun hst => ?_,
    fun hst => ⟨fun hc => ?_, fun hc h0 => ?_, fun hc h0 => ?_⟩⟩⟩
  · exact exec_expiry (i := .timerExpMfBackCycle env) rfl rfl ⟨ha, h⟩
      (expireMfBackCycle_dnis (by exact hd) (by exact h0) (by exact hst) (by exact ht))
      ((nextRequest_yields true (by exact hr)).to (asked_of_bare (by rfl) (by rfl) _ _))
  · exact exec_expiry (i := .timerExpMfBackCycle env) rfl rfl ⟨ha, h⟩
      (expireMfBackCycle_ani (by exact hd) (by exact h0) (by exact hst) (by exact ht))
      ((nextRequest_yields true (by exact hr)).to (asked_of_bare (by rfl) (by rfl) _ _))
  · exact exec_expiry_error (i := .timerExpMfBackCycle env) rfl rfl ⟨ha, h⟩ hr (expireMfBackCycle_timeout (by exact hn))
  · refine exec_expiry (i := .timerExpMfBackResumeCycle env) (m := upd (arm .mfBackCycle)) rfl rfl ⟨ha, h⟩
      (expireMfBackResumeCycle_cycles (by exact hst)) ((Yields.ok (upd_apply _ _)).to ?_)
    rw [arm_eq]
    refine ended_of_bare ?_ (by rfl) _
    exact congrArg (toneActions 0 s ++ ·) (armActions_without (t := toned 0 (firedNow .mfBackResumeCycle s)) (s := s)
      (us := [.mfBackResumeCycle]) rfl rfl (by decide))
  · refine accepted hst h ((Yields.ok (acceptToneDone_offered (by exact hc) (by exact hr))).to (ended_of_bare ?_ ?_ _))
    · exact congrArg (toneActions 0 s ++ · ++ _) hrel
    · rfl
  · refine accepted hst h (.of_eq (acceptToneDone_ready (by exact hc))
      ((Yields.ok (readyToAnswer_now (by exact h0) (by exact hr))).to (ended_of_bare ?_ ?_ _)))
    · exact congrArg (toneActions 0 s ++ · ++ _) hrel
    · rfl
  · refine accepted hst h (.of_eq (acceptToneDone_ready (by exact hc))
      ((Yields.ok (readyToAnswer_later (by exact h0))).to (ended_of_bare ?_ ?_ _)))
    · exact congrArg₂ (· ++ ·) (congrArg (toneActions 0 s ++ ·) hrel)
        (armActions_without (us := [.mfBackResumeCycle]) (by rfl) (by rfl) (by decide))
    · rfl

end Sys2Proof.Machine
end

section
/-! PROOFS. The rows of the line table for a call in progress (spec/40_line_events.md section 3, R141 to R157). -/

namespace Sys2Proof.Machine

/-! ### What is cancelled after a commit -/

section Seen
variable {s : State} {raw : LineCode} {sig : Option Signal}

/-- After a commit the persistence check does not run; the other timers are as they were (R133). -/
theorem cancelsOf_seen (ts : List Timer) (h : Timer.casPersistenceCheck ∉ ts) :
    cancelsOf ts (seen raw sig (startTrace s)) = cancelsOf ts s :=
  cancelsOf_without (us := [.casPersistenceCheck]) rfl fun u hu e => h (by simpa [List.mem_singleton.mp e] using hu)

theorem armActions_seen {tm : Timer} (h : tm ≠ .casPersistenceCheck) :
    armActions tm (seen raw sig (startTrace s)) = armActions tm s :=
  armActions_without (us := [.casPersistenceCheck]) rfl rfl (by simpa using h)

end Seen

/-! ### Decoding in the states of a call (R136) -/

section Decoding
variable {c : Cfg} {r : LineCode} {k : CasState} {sig : Signal} {cause : Cause}

theorem decodeSignal_clearForward
    (hk : k ∈ [CasState.seizeRxd, .seizeAckTxd, .answerTxd, .executingDoubleAnswer, .clearBackTxd, .doubleSeizure])
    (h : r = code c .clearForward) : decodeSignal c r k = some .clearForward := by
  simp only [List.mem_cons, List.not_mem_nil, or_false] at hk
  rcases hk with rfl | rfl | rfl | rfl | rfl | rfl <;> exact if_pos h

theorem decodeSignal_clearing_idle (h : r = code c .idle) : decodeSignal c r .clearForwardTxd = some .idle := if_pos h

theorem decodeSignal_answer (hk : k ∈ [CasState.seizeAckRxd, .acceptRxd, .answerRxd]) (h : r = code c .answer) :
    decodeSignal c r k = some .answer := by
  simp only [List.mem_cons, List.not_mem_nil, or_false] at hk
  rcases hk with rfl | rfl | rfl <;> exact if_pos h

theorem decodeSignal_seizeAck (h : r = code c .seizeAck ∨ (c.frIsSeizeAck = true ∧ r = code c .forcedRelease)) :
    decodeSignal c r .seizeTxd = some .seizeAck := by
  show decodeWhileSeizing c r = _
  unfold decodeWhileSeizing
  by_cases h1 : r = code c .seizeAck
  · exact if_pos h1
  · exact (if_neg h1).trans (if_pos (h.resolve_left h1))

theorem decodeSignal_glare (h1 : r ≠ code c .seizeAck) (h2 : ¬ (c.frIsSeizeAck = true ∧ r = code c .forcedRelease))
    (h : r = code c .seize) : decodeSignal c r .seizeTxd = some .seize :=
  (if_neg h1).trans ((if_neg h2).trans (if_pos h))

theorem classifiedSignal_some (h : classify c r = some (sig, cause)) : classifiedSignal c r = some sig := by
  unfold classifiedSignal
  rw [h]

/-- `Classify` names a disconnect signal (R135). -/
theorem signal_of_classify (h : classify c r = some (sig, cause)) : sig = .clearBack ∨ sig = .forcedRelease := by
  unfold classify at h
  split_ifs at h
  · exact .inl (by simpa using congrArg (·.map Prod.fst) h.symm)
  · exact .inr (by simpa using congrArg (·.map Prod.fst) h.symm)

/-- The states in which a disconnect code ends the call (R147, R148, R153). -/
theorem decodeSignal_disconnect (hcl : classify c r = some (sig, cause))
    (hk : k = .answerRxdMfPending ∨ (k ∈ [CasState.seizeAckRxd, .acceptRxd, .answerRxd] ∧ r ≠ code c .answer)) :
    decodeSignal c r k = some sig := by
  simp only [List.mem_cons, List.not_mem_nil, or_false] at hk
  rcases hk with rfl | ⟨rfl | rfl | rfl, hr⟩
  · exact classifiedSignal_some hcl
  all_goals exact (if_neg hr).trans (classifiedSignal_some hcl)

/-- The states in which it is only recorded (R156, R151). -/
theorem decodeSignal_recorded (hcl : classify c r = some (sig, cause))
    (hk : k ∈ [CasState.clearBackRxd, .forcedReleaseRxd, .clearBackToneRxd] ∨ (k = .clearForwardTxd ∧ r ≠ code c .idle)) :
    decodeSignal c r k = some sig := by
  simp only [List.mem_cons, List.not_mem_nil, or_false] at hk
  rcases hk with (rfl | rfl | rfl) | ⟨rfl, hr⟩
  · exact classifiedSignal_some hcl
  · exact classifiedSignal_some hcl
  · exact classifiedSignal_some hcl
  · exact (if_neg hr).trans (classifiedSignal_some hcl)

end Decoding

/-! ### Glare (R142, R154) -/

section Glare
variable {x : Ctx} {s : State}

theorem glareDetected_ok (hr : NoReentry s) : glareDetected x s =
    .ok () (told (.callDisconnect .glare)
      { s with
        casState := .doubleSeizure, callState := .disconnected
        armed := withoutTimers [.seize] s.armed ||| timerBit .seizePersist
        out := s.out ++ cancelsOf [.seize] s ++ armActions .seizePersist s }) := by
  unfold glareDetected
  rw [upd_bind, upd_bind, cancel_eq, arm_without (s := s) [.seize] (by rfl) (by rfl) (by decide)]
  exact notify_told x _ (by exact hr)

end Glare

/-- Settles O27. -/
theorem glareIsReportedOnce : Obligations.GlareIsReportedOnce := by
  intro env r s seen' remembered hc hr
  refine ⟨fun hk h1 h2 h => ?_, fun hk h => ?_⟩
  · refine exec_line_row hc (by rw [hk]; exact decodeSignal_glare h1 h2 h)
      ((congrFun (by rw [hk]; rfl) _).trans (glareDetected_ok (by exact hr))) ?_ (by rfl)
    show [] ++ commitActions env.line (some .seize) s ++ cancelsOf [.seize] (seen env.line (some .seize) (startTrace s)) ++
      armActions .seizePersist (seen env.line (some .seize) (startTrace s)) ++ _ = _
    rw [cancelsOf_seen _ (by decide), armActions_seen (by decide)]
    rfl
  · exact exec_line_row hc (by rw [hk]; exact decodeSignal_clearForward (by simp) h)
      ((congrFun (by rw [hk]; rfl) _).trans (upd_apply _ _)) (by rfl) (by rfl)

/-! ### Clear-Forward and the end of the call (R141, R150 to R152) -/

theorem act_clearForward {k : CasState} (hk : k ∈ [CasState.seizeRxd, .seizeAckTxd, .answerTxd, .executingDoubleAnswer])
    (x : Ctx) (r : LineCode) : act x r .clearForward k = clearForwardReceived x := by
  simp only [List.mem_cons, List.not_mem_nil, or_false] at hk
  rcases hk with rfl | rfl | rfl | rfl <;> rfl

/-- Settles O28. -/
theorem clearForwardAndCallEnd : Obligations.ClearForwardAndCallEnd := by
  intro env r s freedSeen hc hr
  refine ⟨fun hk h => ?_, fun hk h hw => ?_, fun hk h hw => ?_⟩
  · refine exec_line_row hc (decodeSignal_clearForward (List.mem_append_left [CasState.clearBackTxd, .doubleSeizure] hk) h)
      ((congrFun (act_clearForward hk _ r) _).trans (clearForwardReceived_ok (by exact hr))) ?_ (by rfl)
    show [] ++ commitActions env.line (some .clearForward) s ++
      cancelsOf allTimers (seen env.line (some .clearForward) (startTrace s)) ++ releaseActions s ++ _ = _
    rw [cancelsOf_all_committed (s := s) rfl]
    rfl
  · exact exec_line_row hc (by rw [hk]; exact decodeSignal_clearForward (by simp) h)
      ((congrFun (by rw [hk]; rfl) _).trans (endCall_ok hw (by exact hr))) (by rfl) (by rfl)
  · exact exec_line_row hc (by rw [hk]; exact decodeSignal_clearing_idle h)
      ((congrFun (by rw [hk]; rfl) _).trans (endCall_ok hw (by exact hr))) (by rfl) (by rfl)

/-! ### The peer's disconnect (R135, R137) -/

section Disconnect
variable {x : Ctx} {s : State} {r : LineCode} {sig : Signal} {cause : Cause}

theorem disconnectSeen_eq (h : classify s.cfg r = some (sig, cause)) :
    disconnectSeen x r s = handleDisconnect x sig cause s := by
  unfold disconnectSeen
  rw [see_bind, h]

theorem act_disconnect {k : CasState} (hsig : sig = .clearBack ∨ sig = .forcedRelease)
    (hk : k ∈ [CasState.answerRxdMfPending, .seizeAckRxd, .acceptRxd]) : act x r sig k = disconnectSeen x r := by
  simp only [List.mem_cons, List.not_mem_nil, or_false] at hk
  rcases hsig with rfl | rfl <;> rcases hk with rfl | rfl | rfl <;> rfl

theorem act_recorded {k : CasState} (hsig : sig = .clearBack ∨ sig = .forcedRelease)
    (hk : k ∈ [CasState.clearBackRxd, .forcedReleaseRxd, .clearBackToneRxd, .clearForwardTxd]) : act x r sig k = pure () := by
  simp only [List.mem_cons, List.not_mem_nil, or_false] at hk
  rcases hsig with rfl | rfl <;> rcases hk with rfl | rfl | rfl | rfl <;> rfl

/-- The row of a disconnect code that ends the call. -/
theorem exec_line_disconnect {env : Env} {s : State} (hc : LineCommits env r s) (hr : NoReentry s)
    (hcl : classify s.cfg r = some (sig, cause)) (hdec : decodeSignal s.cfg r s.casState = some sig)
    (h : act (topCtx env) r sig s.casState (seen env.line (some sig) (startTrace s)) =
      disconnectSeen (topCtx env) r (seen env.line (some sig) (startTrace s))) :
    exec (.line env) s = .next (ended
      (commitActions env.line (some sig) s ++ cancelsOf [.answer, .meteringPulse, .mfFwdSafety, .dtmfStartDial] s ++
        releaseActions s ++ [Action.evt (.callDisconnect cause)])
      .ok
      { released (committed env.line (some sig) s) with
        casState := if sig = .clearBack then .clearBackRxd else .forcedReleaseRxd
        callState := .disconnected
        armed := withoutTimers [.casPersistenceCheck, .answer, .meteringPulse, .mfFwdSafety, .dtmfStartDial] s.armed }) := by
  refine exec_line_row hc hdec (h.trans ((disconnectSeen_eq (by exact hcl)).trans (handleDisconnect_ok sig cause
    (by exact hr)))) ?_ (by rfl)
  show [] ++ commitActions env.line (some sig) s ++
    cancelsOf disconnectTimers (seen env.line (some sig) (startTrace s)) ++ releaseActions s ++ _ = _
  rw [cancelsOf_seen _ (by decide)]
  rfl

end Disconnect

/-- Settles O29. -/
theorem peerDisconnectIsReported : Obligations.PeerDisconnectIsReported := by
  intro env r s sig cause freedSeen hc hr hcl
  have hsig := signal_of_classify hcl
  refine ⟨fun hk => ?_, fun hk => ?_⟩
  · refine exec_line_disconnect hc hr hcl (decodeSignal_disconnect hcl ?_) (congrFun (act_disconnect hsig ?_) _)
    · simp only [List.mem_cons, List.not_mem_nil, or_false] at hk ⊢
      tauto
    · simp only [List.mem_cons, List.not_mem_nil, or_false] at hk ⊢
      tauto
  · refine exec_line_row hc (decodeSignal_recorded hcl hk) ((congrFun (act_recorded hsig ?_) _).trans (pure_apply _ _)) (by rfl)
      (by rfl)
    simp only [List.mem_cons, List.not_mem_nil, or_false] at hk ⊢
    tauto

/-! ### The peer's Answer (R147 to R149) -/

section Answer
variable {x : Ctx} {s : State}

theorem answerAfterAccept_ok (hr : NoReentry s) : answerAfterAccept x s =
    .ok () (told .callAnswered
      { s with
        casState := .answerRxd, callState := .answered, answered := true
        armed := withoutTimers [.answer] s.armed, out := s.out ++ cancelsOf [.answer] s }) := by
  unfold answerAfterAccept
  rw [upd_bind, upd_bind, cancel_eq]
  exact notify_told x _ (by exact hr)

theorem answerBeforeAccept_dtmf (hg : s.mfGroup = .dtmfFwdInit) : answerBeforeAccept x s = acceptThenAnswer x .unknown s :=
  see_pos (c := fun s => s.mfGroup = .dtmfFwdInit) hg

theorem answerBeforeAccept_mf (hg : s.mfGroup ≠ .dtmfFwdInit) :
    answerBeforeAccept x s = .ok () { s with casState := .answerRxdMfPending } :=
  see_neg (c := fun s => s.mfGroup = .dtmfFwdInit) hg

end Answer

/-- Settles O30. -/
theorem peerAnswerIsReported : Obligations.PeerAnswerIsReported := by
  intro env r s seen' hc hr h
  have hcancel : cancelsOf [.answer] (seen env.line (some .answer) (startTrace s)) = cancelsOf [.answer] s :=
    cancelsOf_seen _ (by decide)
  refine ⟨fun hk => ?_, fun hk hg => ?_, fun hk hg => ?_⟩
  · refine exec_line_row hc (by rw [hk]; exact decodeSignal_answer (by simp) h)
      ((congrFun (by rw [hk]; rfl) _).trans (answerAfterAccept_ok (by exact hr))) ?_ (by rfl)
    exact congrArg (commitActions env.line (some .answer) s ++ · ++ _) hcancel
  · refine exec_line_row hc (by rw [hk]; exact decodeSignal_answer (by simp) h)
      ((congrFun (by rw [hk]; rfl) _).trans ((answerBeforeAccept_dtmf (by exact hg)).trans
        (acceptThenAnswer_ok .unknown (by exact hr)))) ?_ (by rfl)
    refine (congrArg (commitActions env.line (some .answer) s ++ · ++ _ ++ _) hcancel).trans ?_
    rw [List.append_assoc]
    rfl
  · exact exec_line_row hc (by rw [hk]; exact decodeSignal_answer (by simp) h)
      ((congrFun (by rw [hk]; rfl) _).trans (answerBeforeAccept_mf (by exact hg))) (by rfl) (by rfl)

/-! ### The metering arbiter (R146) -/

section Metering
variable {x : Ctx} {s : State} {r : LineCode}

theorem metering_iff (c : Cfg) : metering c = true ↔ duration c .meteringPulse ≠ 0 := by simp [metering]

theorem meterOrDisconnect_arms (h : duration s.cfg .meteringPulse ≠ 0 ∧ s.answered = true)
    (harm : isArmed .meteringPulse s = false) : meterOrDisconnect x r s =
      .ok ()
        { s with
          armed := s.armed ||| timerBit .meteringPulse
          out := s.out ++ [.tmrArm .meteringPulse (duration s.cfg .meteringPulse)] } := by
  refine (see_pos (c := fun s => metering s.cfg = true ∧ s.answered = true) ⟨(metering_iff _).mpr h.1, h.2⟩).trans ?_
  rw [harm, ← armActions_notArmed harm, ← arm_eq]
  rfl

theorem meterOrDisconnect_waits (h : duration s.cfg .meteringPulse ≠ 0 ∧ s.answered = true)
    (harm : isArmed .meteringPulse s = true) : meterOrDisconnect x r s = .ok () s := by
  refine (see_pos (c := fun s => metering s.cfg = true ∧ s.answered = true) ⟨(metering_iff _).mpr h.1, h.2⟩).trans ?_
  rw [harm]
  rfl

theorem answerReturned_pulse (harm : isArmed .meteringPulse s = true) (hr : NoReentry s) : answerReturned x s =
    .ok () (told .billingPulseReceived
      { s with armed := withoutTimers [.meteringPulse] s.armed, out := s.out ++ [.tmrCancel .meteringPulse] }) := by
  unfold answerReturned billingPulse
  rw [see_bind, harm, onlyIf_true, upd_bind, cancel_eq, cancelsOf_armed_single harm]
  exact notify_told x _ (by exact hr)

theorem answerReturned_nothing (harm : isArmed .meteringPulse s = false) : answerReturned x s = .ok () s := by
  unfold answerReturned
  rw [see_bind, harm]
  rfl

theorem meterOrDisconnect_disconnects (h : ¬ (duration s.cfg .meteringPulse ≠ 0 ∧ s.answered = true)) :
    meterOrDisconnect x r s = disconnectSeen x r s :=
  see_neg (c := fun s => metering s.cfg = true ∧ s.answered = true) fun e => h ⟨(metering_iff _).mp e.1, e.2⟩

theorem act_metering {sig : Signal} (hsig : sig = .clearBack ∨ sig = .forcedRelease) :
    act x r sig .answerRxd = meterOrDisconnect x r := by
  rcases hsig with rfl | rfl <;> rfl

/-- After a commit a timer other than the persistence check is live if it was (R133). -/
theorem isArmed_seen {raw : LineCode} {sig : Option Signal} {tm : Timer} (h : tm ≠ .casPersistenceCheck) :
    isArmed tm (seen raw sig (startTrace s)) = isArmed tm s := by
  show (withoutTimers [.casPersistenceCheck] s.armed).getLsbD tm.index = _
  rw [withoutTimers_getLsbD]
  simp [h, isArmed]

end Metering

/-- Settles O31. -/
theorem meteringPulseIsArbitrated : Obligations.MeteringPulseIsArbitrated := by
  intro env r s returned hc hr hk
  have live : ∀ {sig}, isArmed .meteringPulse (seen env.line sig (startTrace s)) = isArmed .meteringPulse s :=
    isArmed_seen (by decide)
  refine ⟨fun sig cause hn hcl => ?_, fun h harm => ?_, fun h harm => ?_⟩
  · have hsig := signal_of_classify hcl
    have hdec := decodeSignal_disconnect (k := s.casState) hcl (.inr ⟨by simp [hk], hn⟩)
    have hact : act (topCtx env) r sig s.casState = meterOrDisconnect (topCtx env) r := by rw [hk, act_metering hsig]
    refine ⟨fun h harm => ?_, fun h harm => ?_, fun h => ?_⟩
    · exact exec_line_row hc hdec ((congrFun hact _).trans (meterOrDisconnect_arms (by exact h) (live.trans harm))) (by rfl)
        (by rfl)
    · exact exec_line_row hc hdec ((congrFun hact _).trans (meterOrDisconnect_waits (by exact h) (live.trans harm))) (by rfl)
        (by rfl)
    · exact exec_line_disconnect hc hr hcl hdec ((congrFun hact _).trans (meterOrDisconnect_disconnects (by exact h)))
  · refine exec_line_row hc (by rw [hk]; exact decodeSignal_answer (by simp) h)
      ((congrFun (by rw [hk]; rfl) _).trans (answerReturned_pulse (live.trans harm) (by exact hr))) ?_ (by rfl)
    exact List.append_assoc _ [Action.tmrCancel .meteringPulse] [.evt .billingPulseReceived]
  · exact exec_line_row hc (by rw [hk]; exact decodeSignal_answer (by simp) h)
      ((congrFun (by rw [hk]; rfl) _).trans (answerReturned_nothing (live.trans harm))) (by rfl) (by rfl)

end Sys2Proof.Machine
end

section
/-! PROOFS. Seize-Ack (spec/40_line_events.md R143, spec/41_tone_events.md R210): the exchange opens. -/

namespace Sys2Proof.Machine

section Opening
variable {x : Ctx} {s t : State} {d : Digit}

/-- An arm of a timer while another was just armed. -/
theorem armActions_armedOther {u v : Timer} (ha : t.armed = s.armed ||| timerBit v) (hc : t.cfg = s.cfg) (h : u ≠ v) :
    armActions u t = armActions u s := by
  unfold armActions
  rw [hc]
  congr 1
  refine cancelsOf_congr fun w hw => ?_
  rw [List.mem_singleton.mp hw, isArmed, ha, BitVec.getLsbD_or, timerBit_getLsbD]
  simp [h, isArmed]

/-- A tone put on in silence (R183). -/
theorem toneActions_on {tone : Tone} (h0 : tone ≠ 0) (hw : s.mfWriteTone = 0) : toneActions tone s = [.flush, .tone tone] := by
  unfold toneActions
  rw [if_neg (by rw [hw]; exact h0), if_neg h0]

/-- The channel once Seize-Ack is taken (R143). -/
def acknowledged (s : State) : State :=
  { s with casState := .seizeAckRxd, armed := withoutTimers [.seize] s.armed, out := s.out ++ cancelsOf [.seize] s }

theorem seizeAcknowledged_eq : seizeAcknowledged x s = (startExchange x >>= fun _ => notify x .callProceed) (acknowledged s) := by
  unfold seizeAcknowledged
  rw [upd_bind, upd_bind, cancel_eq]
  rfl

/-- DTMF dialling is armed (R143). -/
theorem startExchange_dtmf (h : s.cfg.dialWithDtmf = true) : startExchange x s =
    .ok ()
      { s with
        mfGroup := .dtmfFwdInit, mfState := .off
        armed := (s.armed ||| timerBit .dtmfStartDial) ||| timerBit .answer
        out := s.out ++ armActions .dtmfStartDial s ++ armActions .answer s } := by
  refine (see_pos (c := fun s => s.cfg.dialWithDtmf = true) h).trans ?_
  have hother : armActions .answer (arm .dtmfStartDial { s with mfGroup := .dtmfFwdInit, mfState := .off }) =
      armActions .answer s := armActions_armedOther (v := .dtmfStartDial) (by rw [arm_eq]) (by rw [arm_eq]) (by decide)
  rw [upd_apply, arm_eq (t := .answer), hother, arm_eq]
  rfl

/-- The exchange opened, before the first digit falls due (R143, R210). -/
def exchangeOpen (s : State) : State :=
  { s with
    mfLive := true, mfWriteTone := 0, mfReadTone := 0, mfGroup := .gi, dnisIndex := 0
    out := s.out ++ [.mfInit false, .mfInit true] }

theorem startExchange_failed (h : s.cfg.dialWithDtmf = false) (hi : x.env.ierr = true) :
    startExchange x s = protocolError x .internalError s :=
  (see_neg (c := fun s => s.cfg.dialWithDtmf = true) (by simp [h])).trans (bind_protocolError (congrFun (if_pos hi) s))

theorem startExchange_mf (h : s.cfg.dialWithDtmf = false) (hi : x.env.ierr = false) :
    startExchange x s = sendDue x (dueDnis 0 (exchangeOpen s)) := by
  refine (see_neg (c := fun s => s.cfg.dialWithDtmf = true) (by simp [h])).trans ?_
  unfold mfInit
  rw [if_neg (by simp [hi])]
  rfl

theorem startExchange_digit {ds : List Digit} (h : s.cfg.dialWithDtmf = false) (hi : x.env.ierr = false)
    (hd : s.dnis = d :: ds) (h9 : d.toNat ≤ 9) :
    startExchange x s = setTone x (digitTone d) { exchangeOpen s with mfState := .dnisTxd } := by
  have hlt : 0 < (exchangeOpen s).dnisLen := by simp [State.dnisLen, exchangeOpen, hd]
  rw [startExchange_mf h hi]
  unfold dueDnis
  rw [if_pos hlt]
  exact (sendDue_dnis (d := d) rfl (by simp [exchangeOpen, hd])).trans (congrFun (sendDigit_tone h9) _)

theorem startExchange_end (h : s.cfg.dialWithDtmf = false) (hi : x.env.ierr = false) (hd : s.dnis = [])
    (ht : s.cfg.g1.noMoreDnisAvailable ≠ 0) :
    startExchange x s = setTone x s.cfg.g1.noMoreDnisAvailable { exchangeOpen s with mfState := .dnisEndTxd } := by
  rw [startExchange_mf h hi]
  unfold dueDnis
  rw [if_neg (by simp [State.dnisLen, exchangeOpen, hd]), if_pos (by exact ht)]
  exact sendDue_dnisEnd rfl

theorem startExchange_waits (h : s.cfg.dialWithDtmf = false) (hi : x.env.ierr = false) (hd : s.dnis = [])
    (ht : s.cfg.g1.noMoreDnisAvailable = 0) : startExchange x s =
      .ok ()
        { exchangeOpen s with
          mfState := .waitingTimeout, armed := s.armed ||| timerBit .mfFwdSafety
          out := (exchangeOpen s).out ++ armActions .mfFwdSafety (exchangeOpen s) } := by
  rw [startExchange_mf h hi]
  unfold dueDnis
  rw [if_neg (by simp [State.dnisLen, exchangeOpen, hd]), if_neg (by simp [exchangeOpen, ht]), arm_waiting]
  exact sendDue_waiting rfl

end Opening

/-- The row of Seize-Ack (R143). -/
theorem act_seizeAck {x : Ctx} {r : LineCode} {k : CasState} (hk : k = .seizeTxd) (s : State) :
    act x r .seizeAck k s = (startExchange x >>= fun _ => notify x .callProceed) (acknowledged s) := by
  rw [hk]
  exact seizeAcknowledged_eq

theorem acknowledged_seen_out (raw : LineCode) (s : State) :
    (acknowledged (seen raw (some .seizeAck) (startTrace s))).out =
      commitActions raw (some .seizeAck) s ++ cancelsOf [.seize] s :=
  congrArg (commitActions raw (some .seizeAck) s ++ ·) (cancelsOf_seen _ (by decide))

/-- Settles O26. -/
theorem seizeAckOpensTheExchange : Obligations.SeizeAckOpensTheExchange := by
  intro env r s seen' hc hr hk hcode
  have hdec : decodeSignal s.cfg r s.casState = some .seizeAck := by rw [hk]; exact decodeSignal_seizeAck hcode
  have harm : ∀ {t : State} {tm : Timer}, t.armed = withoutTimers [.casPersistenceCheck, .seize] s.armed → t.cfg = s.cfg →
      tm ∉ [Timer.casPersistenceCheck, .seize] → armActions tm t = armActions tm s := armActions_without
  have hout := acknowledged_seen_out env.line s
  have hact := act_seizeAck (x := topCtx env) (r := r) hk (seen env.line (some .seizeAck) (startTrace s))
  refine ⟨fun hd => ?_, fun hd hi hw => ⟨fun d ds hdn h9 => ?_, fun hdn ht => ?_, fun hdn ht => ?_⟩, fun hd hi => ?_⟩
  · refine exec_line_row hc hdec (hact.trans ((bind_ok (startExchange_dtmf (by exact hd))).trans
      (notify_told _ _ (by exact hr)))) ?_ (by rfl)
    exact congrArg₂ (· ++ · ++ [Action.evt .callProceed])
      (congrArg₂ (· ++ ·) hout (harm (by rfl) (by rfl) (by decide))) (harm (by rfl) (by rfl) (by decide))
  · refine exec_line_row hc hdec (hact.trans ((bind_ok ((startExchange_digit (by exact hd) (by exact hi) (by exact hdn) h9).trans
      (setTone_toned (topCtx env) _ _ (.inl hw)))).trans (notify_told _ _ (by exact hr)))) ?_ (by rfl)
    show (acknowledged (seen env.line (some .seizeAck) (startTrace s))).out ++ _ ++ toneActions (digitTone d) _ ++ _ = _
    rw [hout, toneActions_on (digitTone_ne_zero h9) rfl]
    simp only [List.append_assoc, List.cons_append, List.nil_append]
  · refine exec_line_row hc hdec (hact.trans ((bind_ok ((startExchange_end (by exact hd) (by exact hi) (by exact hdn) (by exact ht)).trans
      (setTone_toned (topCtx env) _ _ (.inl hw)))).trans (notify_told _ _ (by exact hr)))) ?_ (by rfl)
    show (acknowledged (seen env.line (some .seizeAck) (startTrace s))).out ++ _ ++
      toneActions s.cfg.g1.noMoreDnisAvailable _ ++ _ = _
    rw [hout, toneActions_on ht rfl]
    simp only [List.append_assoc, List.cons_append, List.nil_append]
  · refine exec_line_row hc hdec (hact.trans ((bind_ok (startExchange_waits (by exact hd) (by exact hi) (by exact hdn)
      (by exact ht))).trans (notify_told _ _ (by exact hr)))) ?_ (by rfl)
    exact congrArg₂ (· ++ [Action.mfInit false, .mfInit true] ++ · ++ [Action.evt .callProceed]) hout
      (harm (by rfl) (by rfl) (by decide))
  · exact exec_line_protocolError hc hdec (by exact hr) (hact.trans (bind_protocolError (startExchange_failed (by exact hd)
      (by exact hi)))) hout (by rfl)

end Sys2Proof.Machine
end

section
/-! PROOFS. The call-control operations (spec/43_call_control.md): the guards, the call set up, accepted and answered. -/

namespace Sys2Proof.Machine

/-! ### The guards (R272, R276, R280) -/

section Guards
variable {s : State}

theorem mfDigit_iff (d : Digit) : mfDigit d = true ↔ d.toNat ≤ 9 := by
  simp [mfDigit, BitVec.le_def]

theorem dialable_iff (category : Category) : dialable category s = true ↔
    (s.cfg.dialWithDtmf = true ∨
      (categoryTone s.cfg category ≠ 0 ∧ (∀ d ∈ s.stageAni, d.toNat ≤ 9) ∧ ∀ d ∈ s.stageDnis, d.toNat ≤ 9)) := by
  simp [dialable, mfDigit_iff, List.all_eq_true]

theorem makeCallGuard_iff (category : Category) : makeCallGuard category s = true ↔ CanDial category s := by
  unfold makeCallGuard CanDial
  simp only [Bool.and_eq_true, Bool.not_eq_true', decide_eq_true_eq, dialable_iff, and_assoc]

theorem acceptGuard_iff : acceptGuard s = true ↔ CanAccept s := by
  unfold acceptGuard CanAccept
  simp only [Bool.and_eq_true, Bool.not_eq_true', decide_eq_true_eq, and_assoc]

theorem answerGuard_iff : answerGuard s = true ↔ CanAnswer s := by
  unfold answerGuard CanAnswer
  simp only [Bool.and_eq_true, Bool.or_eq_true, Bool.not_eq_true', decide_eq_true_eq, and_assoc]

theorem ackGuard_iff : ackGuard s = true ↔ s.alarm = false ∧ s.casState = .seizeRxd := by
  simp [ackGuard]

end Guards

/-! ### MAKE_CALL (R272) -/

section MakeCall
variable {x : Ctx} {s : State} {category : Category} {restricted : Bool}

theorem makeCall_refused (h : ¬ CanDial category s) : makeCall category restricted x s = status .fail s :=
  see_neg (c := fun s => makeCallGuard category s = true) (mt (makeCallGuard_iff category).mp h)

theorem makeCall_dials (h : CanDial category s) : makeCall category restricted x s =
    (txSignal x .seize >>= fun _ => upd (openCall category restricted) >>= fun _ => upd (arm .seize) >>= fun _ =>
      status .ok) s :=
  see_pos (c := fun s => makeCallGuard category s = true) ((makeCallGuard_iff category).mpr h)

end MakeCall

/-- Settles O49. -/
theorem makeCallEffect : Obligations.MakeCallEffect := by
  intro category restricted env s sent
  refine ⟨fun h hw => ?_, fun h => exec_of_status (i := .makeCall category restricted env) rfl (makeCall_refused (by exact h))⟩
  refine exec_ok (i := .makeCall category restricted env) rfl ((makeCall_dials (by exact h)).trans
    ((bind_ok (txSignal_sent .seize hw _)).trans (status_apply _ _))) ?_ ?_
  · show (arm _ _).out = _
    rw [arm_eq]
    exact congrArg (lineActions s.cfg .seize ++ ·) (armActions_armed (s := s) .seize (by rfl) (by rfl))
  · show bare (arm _ _) = _
    rw [arm_eq]
    rfl

/-! ### ACK_CALL and ACCEPT_CALL (R275 to R277) -/

section Accept
variable {x : Ctx} {s : State} {mode : Mode}

theorem ackCall_acks (h : s.alarm = false ∧ s.casState = .seizeRxd) :
    ackCall x s = (sendSeizeAck x >>= fun _ => status .ok) s :=
  see_pos (c := fun s => ackGuard s = true) (ackGuard_iff.mpr h)

theorem ackCall_refused (h : ¬ (s.alarm = false ∧ s.casState = .seizeRxd)) : ackCall x s = status .fail s :=
  see_neg (c := fun s => ackGuard s = true) (mt ackGuard_iff.mp h)

theorem acceptCall_refused (h : ¬ CanAccept s) : acceptCall mode x s = status .fail s :=
  see_pos (c := fun s => acceptGuard s = false) (by simpa using mt acceptGuard_iff.mp h)

theorem acceptCall_accepts (h : CanAccept s) : acceptCall mode x s =
    (if s.mfLive = true ∧ s.mfGroup = .gb then acceptByTone mode x
    else if s.mfGroup = .dtmfBackInit then acceptDtmf mode x
    else acceptAgain x) s :=
  see_neg (c := fun s => acceptGuard s = false) (by simpa using acceptGuard_iff.mpr h)

theorem acceptByTone_noTone (h : acceptTone s.cfg mode = 0) : acceptByTone mode x s = status .fail s :=
  see_pos (c := fun s => acceptTone s.cfg mode = 0) h

theorem acceptByTone_tone (h : acceptTone s.cfg mode ≠ 0) : acceptByTone mode x s =
    (setTone x (acceptTone s.cfg mode) >>= fun _ =>
      upd (fun s => arm .mfBackCycle { s with acceptMode := mode, mfState := .acceptedTxd }) >>= fun _ => status .ok) s :=
  see_neg (c := fun s => acceptTone s.cfg mode = 0) h

end Accept

/-- Settles O50. -/
theorem ackAndAcceptEffect : Obligations.AckAndAcceptEffect := by
  intro mode env s sent freed
  refine ⟨fun ha hk hw => ?_, fun h => exec_of_status (i := .ackCall env) rfl (ackCall_refused (by exact h)),
    fun h hl hg => ⟨fun h0 hw => ?_, fun h0 => ?_⟩, fun h hg hr => ?_, fun h hn hg => ⟨fun h0 hr => ?_, fun h0 => ?_⟩,
    fun h => exec_of_status (i := .acceptCall mode env) rfl (acceptCall_refused (by exact h))⟩
  · exact exec_ok (i := .ackCall env) rfl ((ackCall_acks (by exact ⟨ha, hk⟩)).trans
      ((bind_ok (sendSeizeAck_ok hw)).trans (status_apply _ _))) (by rfl) (by rfl)
  · refine exec_ok (i := .acceptCall mode env) rfl ((acceptCall_accepts (by exact h)).trans
      ((congrFun (if_pos (by exact ⟨hl, hg⟩)) _).trans ((acceptByTone_tone (by exact h0)).trans
        ((bind_ok (setTone_toned _ _ _ (.inl hw))).trans (status_apply _ _))))) ?_ ?_
    · show (arm _ _).out = _
      rw [arm_eq]
      exact congrArg (toneActions (acceptTone s.cfg mode) s ++ ·) (armActions_armed (s := s) .mfBackCycle (by rfl) (by rfl))
    · show bare (arm _ _) = _
      rw [arm_eq]
      rfl
  · exact exec_of_status (i := .acceptCall mode env) rfl ((acceptCall_accepts (by exact h)).trans
      ((congrFun (if_pos (by exact ⟨hl, hg⟩)) _).trans (acceptByTone_noTone (by exact h0))))
  · exact exec_ok (i := .acceptCall mode env) rfl ((acceptCall_accepts (by exact h)).trans
      ((congrFun ((if_neg (by rintro ⟨-, e⟩; exact absurd (hg.symm.trans e) (by decide))).trans (if_pos (by exact hg))) _).trans
        ((upd_bind _ _ _).trans ((upd_bind _ _ _).trans ((bind_ok (acceptedNow_ok (by exact hr))).trans (status_apply _ _))))))
      (by rfl) (by rfl)
  · exact exec_ok (i := .acceptCall mode env) rfl ((acceptCall_accepts (by exact h)).trans
      ((congrFun ((if_neg (by exact hn)).trans (if_neg (by exact hg))) _).trans
        ((bind_ok (readyToAnswer_now (by exact h0) (by exact hr))).trans (status_apply _ _)))) (by rfl) (by rfl)
  · obtain ⟨_, _, _, _, _, _, hnot⟩ := id h
    refine exec_ok (i := .acceptCall mode env) rfl ((acceptCall_accepts (by exact h)).trans
      ((congrFun ((if_neg (by exact hn)).trans (if_neg (by exact hg))) _).trans
        ((bind_ok (readyToAnswer_later (by exact h0))).trans (status_apply _ _)))) ?_ (by rfl)
    exact armActions_notArmed (s := startTrace s) hnot

/-! ### ANSWER_CALL, ANSWER_CALL_MODE (R280 to R282) -/

section AnswerTx
variable {x : Ctx} {s : State} {double : Bool}

theorem guardedAnswer_refused (h : ¬ CanAnswer s) : guardedAnswer double x s = status .fail s :=
  see_neg (c := fun s => answerGuard s = true) (mt answerGuard_iff.mp h)

theorem guardedAnswer_answers (h : CanAnswer s) :
    guardedAnswer double x s = (answerTx double x >>= fun _ => status .ok) s :=
  see_pos (c := fun s => answerGuard s = true) (answerGuard_iff.mpr h)

/-- The channel with Answer on the line and the engines released, before the double answer is looked at (R282). -/
def answering (s : State) : State :=
  { s with
    txRaw := txRawOf s.cfg .answer, txCode := code s.cfg .answer, txSig := some .answer
    mfLive := false, dtmfRxLive := false, dtmfTxLive := false, mfWriteTone := 0, mfReadTone := 0, mfState := .off
    armed := withoutTimers [.answerDelay] s.armed
    out := s.out ++ lineActions s.cfg .answer ++ cancelsOf [.answerDelay] s ++ releaseActions s }

theorem answerTx_eq (hw : x.env.werr = false) : answerTx double x s =
    .ok () { answerSent double (answering s) with callState := .answered, answered := true } := by
  unfold answerTx
  rw [bind_ok (txSignal_sent .answer hw s), upd_bind, cancel_eq]
  rfl

theorem answerTx_single (hw : x.env.werr = false) : answerTx false x s =
    .ok () { answering s with casState := .answerTxd, callState := .answered, answered := true } := answerTx_eq hw

theorem answerTx_double (hw : x.env.werr = false) : answerTx true x s =
    .ok ()
      { answering s with
        casState := .executingDoubleAnswer, callState := .answered, answered := true
        armed := withoutTimers [.answerDelay] s.armed ||| timerBit .doubleAnswer
        out := (answering s).out ++ armActions .doubleAnswer s } := by
  rw [answerTx_eq hw]
  unfold answerSent
  rw [if_pos rfl, arm_without (s := s) [.answerDelay] (by rfl) (by rfl) (by decide)]

/-- Both operations answer; ANSWER_CALL takes the mode from the configuration (R280, R281). -/
theorem exec_answers {env : Env} {i : Instr} {u t : State} {acts : List Action}
    (hi : i = .answerCallMode double env ∨ (i = .answerCall env ∧ s.cfg.doubleAnswer = double)) (h : CanAnswer s)
    (hrun : answerTx double (topCtx env) (startTrace s) = .ok () u) (hacts : u.out = acts) (ht : bare u = bare t) :
    exec i s = .next (ended acts .ok t) := by
  have hguarded : guardedAnswer double (topCtx env) (startTrace s) = .ok () (output (.status .ok) u) :=
    (guardedAnswer_answers (by exact h)).trans ((bind_ok hrun).trans (status_apply _ _))
  rcases hi with rfl | ⟨rfl, rfl⟩
  · exact exec_ok (i := .answerCallMode double env) rfl hguarded hacts ht
  · exact exec_ok (i := .answerCall env) rfl ((see_bind _ _).trans hguarded) hacts ht

end AnswerTx

/-- Settles O51. -/
theorem answerEffect : Obligations.AnswerEffect := by
  intro env s freedSent
  refine ⟨fun h hw => ⟨fun i hi => ?_, fun i hi => ?_⟩, fun h => ⟨exec_of_status (i := .answerCall env) rfl
    ((see_bind _ _).trans (guardedAnswer_refused (by exact h))), fun double =>
    exec_of_status (i := .answerCallMode double env) rfl (guardedAnswer_refused (by exact h))⟩⟩
  · refine exec_answers (double := false) ?_ h (answerTx_single hw) (by rfl) (by rfl)
    cases hd : s.cfg.doubleAnswer <;> simpa [hd] using hi
  · refine exec_answers (double := true) ?_ h (answerTx_double hw) (by rfl) (by rfl)
    cases hd : s.cfg.doubleAnswer <;> simpa [hd] using hi

end Sys2Proof.Machine
end

section
/-! PROOFS. DISCONNECT_CALL, SET_IDLE and SET_BLOCKED (spec/43_call_control.md sections 4 and 5). -/

namespace Sys2Proof.Machine

/-! ### The rows of DISCONNECT_CALL (R285) -/

section Rows
variable {x : Ctx} {s : State} {cause : Cause}

theorem disconnectInProgress_iff : disconnectInProgress s = true ↔
    (s.casState ∈ [CasState.clearBackTxd, .clearForwardTxd] ∨ s.mfState = .disconnectTxd) := by
  simp [disconnectInProgress]

theorem disconnectCall_refused (h : s.alarm = true ∨ s.callState = .idle) : disconnectCall cause x s = status .fail s :=
  see_pos (c := fun s => s.alarm = true ∨ s.callState = .idle) h

/-- A pending call that is not being disconnected yet. -/
def Disconnectable (s : State) : Prop :=
  s.alarm = false ∧ s.callState ≠ .idle ∧ s.mfState ≠ .disconnectTxd ∧
    s.casState ∉ [CasState.clearBackTxd, .clearForwardTxd]

theorem disconnectCall_progresses (ha : s.alarm = false) (hc : s.callState ≠ .idle) (h : disconnectInProgress s = true) :
    disconnectCall cause x s = status .ok s :=
  (see_neg (c := fun s => s.alarm = true ∨ s.callState = .idle) (by simp [ha, hc])).trans (congrFun (if_pos h) s)

theorem disconnectCall_acts (h : Disconnectable s) : disconnectCall cause x s =
    (if s.casState = .clearForwardRxd then thenOk (endCall x) else disconnectByDirection cause x s.direction) s := by
  obtain ⟨ha, hc, hst, hcas⟩ := h
  refine (see_neg (c := fun s => s.alarm = true ∨ s.callState = .idle) (by simp [ha, hc])).trans (congrFun (if_neg ?_) s)
  rw [disconnectInProgress_iff]
  tauto

theorem disconnectCall_ends (h : Disconnectable s) (hk : s.casState = .clearForwardRxd) :
    disconnectCall cause x s = (endCall x >>= fun _ => status .ok) s :=
  (disconnectCall_acts h).trans (congrFun (if_pos hk) s)

theorem disconnectCall_forward (h : Disconnectable s) (hk : s.casState ≠ .clearForwardRxd) (hd : s.direction = .forward) :
    disconnectCall cause x s = (disconnectForward x >>= fun _ => status .ok) s :=
  (disconnectCall_acts h).trans (congrFun ((if_neg hk).trans (by rw [hd]; rfl)) s)

theorem disconnectCall_backward (h : Disconnectable s) (hk : s.casState ≠ .clearForwardRxd) (hd : s.direction = .backward) :
    disconnectCall cause x s = (disconnectBackward cause x >>= fun _ => status .ok) s :=
  (disconnectCall_acts h).trans (congrFun ((if_neg hk).trans (by rw [hd]; rfl)) s)

theorem disconnectForward_glare (h : s.casState ∈ [CasState.doubleSeizure, .doubleSeizureClearFwdPending]) :
    disconnectForward x s = localClearForward x s :=
  see_pos (c := fun s => inGlare s = true) ((inGlare_iff s).mpr h)

theorem disconnectForward_clears (h : s.casState ∉ [CasState.doubleSeizure, .doubleSeizureClearFwdPending]) :
    disconnectForward x s = clearForward x s :=
  see_neg (c := fun s => inGlare s = true) (mt (inGlare_iff s).mp h)

/-- R287. -/
theorem clearForward_ok (hw : x.env.werr = false) : clearForward x s =
    .ok ()
      { released (transmitted .clearForward s) with
        casState := .clearForwardTxd, callState := .disconnected
        armed := withoutTimers callTimers s.armed ||| timerBit .setCallDown
        out := s.out ++ lineActions s.cfg .clearForward ++ cancelsOf callTimers s ++ releaseActions s ++
          [.tmrArm .setCallDown (duration s.cfg .setCallDown)] } := by
  unfold clearForward
  rw [bind_ok (txSignal_sent .clearForward hw s), upd_bind, upd_bind, upd_apply, cancelCallTimers_eq,
    arm_cancelled (s := s) callTimers (by rfl) (by rfl) (by decide)]
  rfl

/-! ### The backward side (R286) -/

theorem causeToneDue_iff : causeToneDue cause s = true ↔ ToneDue cause s := by
  unfold causeToneDue ToneDue
  simp only [Bool.and_eq_true, decide_eq_true_eq, bne_iff_ne, and_assoc]

theorem disconnectBackward_tone (h : ToneDue cause s) : disconnectBackward cause x s = disconnectByTone cause x s :=
  see_pos (c := fun s => causeToneDue cause s = true) (causeToneDue_iff.mpr h)

theorem disconnectBackward_line (h : ¬ ToneDue cause s) : disconnectBackward cause x s = disconnectByLine cause x s :=
  see_neg (c := fun s => causeToneDue cause s = true) (mt causeToneDue_iff.mp h)

theorem disconnectByTone_ok (hw : x.env.werr = false) : disconnectByTone cause x s =
    .ok ()
      { s with
        mfWriteTone := causeTone s.cfg cause, mfState := .disconnectTxd, callState := .disconnected
        armed := s.armed ||| timerBit .mfBackCycle
        out := s.out ++ toneActions (causeTone s.cfg cause) s ++ armActions .mfBackCycle s } := by
  refine (see_bind _ _).trans ((bind_ok (setTone_toned x _ s (.inl hw))).trans ?_)
  rw [upd_apply, arm_eq]
  rfl

theorem backwardClearSignal_eq {sig : Signal}
    (h : (sig = .forcedRelease ∧ s.callState ∈ [CallState.accepted, .answered] ∧ cause = .forcedRelease) ∨
      (sig = .clearBack ∧ ¬ (s.callState ∈ [CallState.accepted, .answered] ∧ cause = .forcedRelease))) :
    backwardClearSignal cause s = sig := by
  simp only [List.mem_cons, List.not_mem_nil, or_false] at h
  rcases h with ⟨rfl, hc⟩ | ⟨rfl, hc⟩
  · exact if_pos hc
  · exact if_neg hc

theorem disconnectByLine_ok {sig : Signal} (hw : x.env.werr = false) (hsig : backwardClearSignal cause s = sig) :
    disconnectByLine cause x s =
      .ok ()
        { released (transmitted sig s) with
          casState := .clearBackTxd, callState := .disconnected, armed := withoutTimers callTimers s.armed
          out := s.out ++ lineActions s.cfg sig ++ cancelsOf callTimers s ++ releaseActions s } := by
  unfold disconnectByLine
  rw [see_bind, hsig, bind_ok (txSignal_sent sig hw s), upd_bind, upd_bind, cancelCallTimers_eq]
  rfl

end Rows

/-- Settles O52. -/
theorem disconnectRows : Obligations.DisconnectRows := by
  intro cause env s sent freedSent
  refine ⟨fun h => exec_of_status (i := .disconnectCall cause env) rfl (disconnectCall_refused (by exact h)), fun ha hc =>
    ⟨fun h => exec_of_status (i := .disconnectCall cause env) rfl
      (disconnectCall_progresses (by exact ha) (by exact hc) (disconnectInProgress_iff.mpr (by exact h))),
    fun hst hk hw hr => ?_, fun hst hd hw => ⟨fun hk => ?_, fun hk hr => ?_, fun hk => ?_⟩⟩⟩
  · exact exec_ok (i := .disconnectCall cause env) rfl ((disconnectCall_ends (by exact ⟨ha, hc, hst, by simp [hk]⟩)
      (by exact hk)).trans ((bind_ok (endCall_ok hw (by exact hr))).trans (status_apply _ _))) (by rfl) (by rfl)
  · exact exec_ok (i := .disconnectCall cause env) rfl ((disconnectCall_forward (by exact ⟨ha, hc, hst, by simp [hk]⟩)
      (by simp [startTrace, hk]) (by exact hd)).trans ((bind_ok ((disconnectForward_glare (by simp [startTrace, hk])).trans
        (localClearForward_glare hw (by exact hk)))).trans (status_apply _ _))) (by rfl) (by rfl)
  · refine exec_ok (i := .disconnectCall cause env) rfl ((disconnectCall_forward (by exact ⟨ha, hc, hst, by simp [hk]⟩)
      (by simp [startTrace, hk]) (by exact hd)).trans ((bind_ok ((disconnectForward_glare (by simp [startTrace, hk])).trans
        (localClearForward_cleared hw (by exact hk) (by exact hr)))).trans (status_apply _ _))) ?_ (by rfl)
    rfl
  · simp only [List.mem_cons, List.not_mem_nil, or_false, not_or] at hk
    obtain ⟨h1, h2, h3, h4, h5⟩ := hk
    exact exec_ok (i := .disconnectCall cause env) rfl ((disconnectCall_forward (by exact ⟨ha, hc, hst, by simp [h3, h4]⟩)
      (by exact h5) (by exact hd)).trans ((bind_ok ((disconnectForward_clears (by simp [startTrace, h1, h2])).trans
        (clearForward_ok hw))).trans (status_apply _ _))) (by rfl) (by rfl)

/-- Settles O53. -/
theorem backwardDisconnect : Obligations.BackwardDisconnect := by
  intro cause env s ha hc hst hd hw hk
  simp only [List.mem_cons, List.not_mem_nil, or_false, not_or] at hk
  obtain ⟨h1, h2, h3⟩ := hk
  have hrun : ∀ x, disconnectCall cause x (startTrace s) =
      (disconnectBackward cause x >>= fun _ => status .ok) (startTrace s) :=
    fun x => disconnectCall_backward ⟨ha, hc, hst, by simp [startTrace, h1, h2]⟩ h3 hd
  refine ⟨fun h => ?_, fun h sig hsig => ?_⟩
  · exact exec_ok (i := .disconnectCall cause env) rfl ((hrun _).trans ((bind_ok ((disconnectBackward_tone (by exact h)).trans
      (disconnectByTone_ok hw))).trans (status_apply _ _))) (by rfl) (by rfl)
  · exact exec_ok (i := .disconnectCall cause env) rfl ((hrun _).trans ((bind_ok ((disconnectBackward_line (by exact h)).trans
      (disconnectByLine_ok hw (backwardClearSignal_eq (by exact hsig))))).trans (status_apply _ _))) (by rfl) (by rfl)

/-! ### SET_IDLE and SET_BLOCKED (R292, R293) -/

section Setting
variable {env : Env} {s : State}

theorem exec_setIdle (hw : env.werr = false) : exec (.setIdle env) s =
    .next (ended (lineActions s.cfg .idle ++ baselineActions s) .ok (baselineOf (transmitted .idle s))) := by
  refine exec_ok (i := .setIdle env) rfl ((bind_ok (txSignal_sent .idle hw _)).trans ((upd_bind _ _ _).trans
    (status_apply _ _))) ?_ ?_
  · rw [resetBaseline_eq]
    rfl
  · rw [resetBaseline_eq]
    rfl

theorem exec_setBlocked (hw : env.werr = false) : exec (.setBlocked env) s =
    .next (ended (lineActions s.cfg .block ++ baselineActions s) .ok
      { baselineOf (transmitted .block s) with casState := .blocked }) := by
  refine exec_ok (i := .setBlocked env) rfl ((bind_ok (txSignal_sent .block hw _)).trans ((upd_bind _ _ _).trans
    ((upd_bind _ _ _).trans (status_apply _ _)))) ?_ ?_
  · rw [resetBaseline_eq]
    rfl
  · rw [resetBaseline_eq]
    rfl

theorem mem_allTimers (tm : Timer) : tm ∈ allTimers := by cases tm <;> decide

theorem cancelCount_append (tm : Timer) (as bs : List Action) :
    cancelCount tm (as ++ bs) = cancelCount tm as + cancelCount tm bs := List.count_append

theorem cancelCount_lineActions (tm : Timer) (c : Cfg) (sig : Signal) : cancelCount tm (lineActions c sig) = 0 := by
  simp [cancelCount, lineActions]

theorem cancelCount_releaseActions (tm : Timer) (s : State) : cancelCount tm (releaseActions s) = 0 := by
  unfold releaseActions cancelCount
  split_ifs <;> simp

theorem cancelCount_status (tm : Timer) (st : Status) : cancelCount tm [.status st] = 0 := by simp [cancelCount]

/-- A baseline cancels each live timer once (R362). -/
theorem cancelCount_cancelsOf_all (tm : Timer) (s : State) :
    cancelCount tm (cancelsOf allTimers s) = if isArmed tm s then 1 else 0 := by
  have hinj : Function.Injective Action.tmrCancel := fun a b e => by simpa using e
  unfold cancelCount cancelsOf
  split
  next h =>
    exact List.count_eq_one_of_mem (((by decide : allTimers.Nodup).filter _).map hinj)
      (List.mem_map_of_mem (List.mem_filter.mpr ⟨mem_allTimers tm, h⟩))
  next h =>
    refine List.count_eq_zero_of_not_mem fun hmem => ?_
    obtain ⟨u, hu, e⟩ := List.mem_map.mp hmem
    rw [hinj e] at hu
    exact h (List.mem_filter.mp hu).2

/-- How often a SET_IDLE cancels a timer. -/
theorem cancelCount_setIdle (tm : Timer) (s : State) :
    cancelCount tm (lineActions s.cfg .idle ++ baselineActions s ++ [.status .ok]) = if isArmed tm s then 1 else 0 := by
  unfold baselineActions
  simp only [cancelCount_append, cancelCount_lineActions, cancelCount_releaseActions, cancelCount_status,
    cancelCount_cancelsOf_all, Nat.zero_add, Nat.add_zero]

end Setting

/-- Settles O54. -/
theorem setIdleAndSetBlocked : Obligations.SetIdleAndSetBlocked := by
  refine ⟨fun env s hw => ⟨exec_setIdle hw, exec_setBlocked hw⟩, fun env env' s hw hw' => ?_⟩
  refine ⟨_, _, exec_setIdle hw, exec_setIdle hw', rfl, rfl, rfl, by simp [ended], by simp [ended], fun tm =>
    ⟨cancelCount_setIdle tm s, (cancelCount_setIdle tm _).trans ?_⟩⟩
  have hidle : isArmed tm (ended (lineActions s.cfg .idle ++ baselineActions s) .ok (baselineOf (transmitted .idle s))) = false :=
    BitVec.getLsbD_zero
  rw [hidle]
  rfl

end Sys2Proof.Machine
end

section
/-! PROOFS. Failed collaborator calls (spec/60_exceptions.md section 2, R336 and R338): where each rule is ended, with the
registers as the rule had left them. -/

namespace Sys2Proof.Machine

section Failed
variable {i : Instr} {env : Env} {s : State} {what : OsError} {cause : Cause}

/-- A rule that comes to the failed call with nothing done. -/
theorem exec_failed (hwf : i.wf = true) (hr : NoReentry s)
    (h : ruleOf i (topCtx (envOf i)) (startTrace s) = ioError (topCtx (envOf i)) what (startTrace s)) :
    exec i s = .next (ended [.evt (.osError what)] .ioError s) :=
  exec_ioError hwf hr.startTrace h rfl rfl

/-- An expiry whose effect comes to the failed call with nothing done. -/
theorem exec_expiry_failed {tm : Timer} {effect : Ctx → Act Unit} (hi : ruleOf i = timerExp tm effect)
    (ht : expiredTimer i = some tm) (hE : Expires tm s) (hr : NoReentry s)
    (h : effect (topCtx (envOf i)) (firedNow tm s) = ioError (topCtx (envOf i)) what (firedNow tm s)) :
    exec i s = .next (ended [.evt (.osError what)] .ioError (fired tm s)) :=
  exec_expiry hi ht hE h ((Yields.ioError (x := topCtx (envOf i)) rfl (by exact hr)).to (ended_of_bare (by rfl) (by rfl) _))

/-! ### A line that cannot be written (R134) -/

theorem txSignal_seq_werr {x : Ctx} {α : Type} {sig : Signal} {k : Unit → Act α} (hw : x.env.werr = true) :
    (txSignal x sig >>= k) = ioError x .lineWrite := by
  rw [txSignal_werr sig hw, ioError_bind]

theorem endCall_werr {x : Ctx} (hw : x.env.werr = true) : endCall x = ioError x .lineWrite := txSignal_seq_werr hw

theorem localClearForward_werr {x : Ctx} (hw : x.env.werr = true) : localClearForward x = ioError x .lineWrite :=
  txSignal_seq_werr hw

/-- DISCONNECT_CALL where a row writes the line (R285 to R287). -/
theorem disconnectCall_werr {x : Ctx} (hw : x.env.werr = true) (h : Disconnectable s)
    (hrow : s.casState = .clearForwardRxd ∨ s.direction = .forward ∨ (s.direction = .backward ∧ ¬ ToneDue cause s)) :
    disconnectCall cause x s = ioError x .lineWrite s := by
  by_cases hk : s.casState = .clearForwardRxd
  · rw [disconnectCall_ends h hk, endCall_werr hw, ioError_bind]
  · rcases hrow with e | hd | ⟨hd, hn⟩
    · exact absurd e hk
    · rw [disconnectCall_forward h hk hd]
      refine bind_ioError ?_
      by_cases hg : s.casState ∈ [CasState.doubleSeizure, .doubleSeizureClearFwdPending]
      · rw [disconnectForward_glare hg, localClearForward_werr hw]
      · rw [disconnectForward_clears hg]
        exact congrFun (txSignal_seq_werr hw) s
    · rw [disconnectCall_backward h hk hd]
      refine bind_ioError ?_
      rw [disconnectBackward_line hn]
      exact (see_bind _ _).trans (congrFun (txSignal_seq_werr hw) s)

/-- Call control over a line that cannot be written. -/
theorem ruleOf_werr (hw : env.werr = true)
    (hi : i = .setIdle env ∨ i = .setBlocked env ∨ (∃ c r, i = .makeCall c r env ∧ CanDial c s) ∨
      (i = .ackCall env ∧ s.alarm = false ∧ s.casState = .seizeRxd) ∨
      (i = .answerCall env ∧ CanAnswer s) ∨ (∃ double, i = .answerCallMode double env ∧ CanAnswer s) ∨
      (∃ cause, i = .disconnectCall cause env ∧ s.alarm = false ∧ s.callState ≠ .idle ∧ s.mfState ≠ .disconnectTxd ∧
        s.casState ∉ [CasState.clearBackTxd, .clearForwardTxd] ∧
        (s.casState = .clearForwardRxd ∨ s.direction = .forward ∨ (s.direction = .backward ∧ ¬ ToneDue cause s)))) :
    i.wf = true ∧ ruleOf i (topCtx (envOf i)) s = ioError (topCtx (envOf i)) .lineWrite s := by
  have answers : ∀ double, CanAnswer s → guardedAnswer double (topCtx env) s = ioError (topCtx env) .lineWrite s :=
    fun double h => (guardedAnswer_answers h).trans (bind_ioError (congrFun (txSignal_seq_werr hw) s))
  rcases hi with rfl | rfl | ⟨c, r, rfl, h⟩ | ⟨rfl, h⟩ | ⟨rfl, h⟩ | ⟨double, rfl, h⟩ | ⟨cause, rfl, ha, hc, hst, hcas, hrow⟩
  · exact ⟨rfl, congrFun (txSignal_seq_werr hw) s⟩
  · exact ⟨rfl, congrFun (txSignal_seq_werr hw) s⟩
  · exact ⟨rfl, (makeCall_dials h).trans (congrFun (txSignal_seq_werr hw) s)⟩
  · exact ⟨rfl, (ackCall_acks h).trans (bind_ioError (congrFun (txSignal_seq_werr hw) s))⟩
  · exact ⟨rfl, (see_bind _ _).trans (answers _ h)⟩
  · exact ⟨rfl, answers double h⟩
  · exact ⟨rfl, disconnectCall_werr hw ⟨ha, hc, hst, hcas⟩ hrow⟩

/-- The expiries that write the line (R251, R252, R254, R255). -/
theorem exec_expiry_werr {tm : Timer} (hw : env.werr = true) (hE : Expires tm s) (hr : NoReentry s)
    (hi : (i = .timerExpSeizePersist env ∧ tm = .seizePersist ∧
        s.casState ∈ [CasState.doubleSeizure, .doubleSeizureClearFwdPending]) ∨
      (i = .timerExpAnswer env ∧ tm = .answer ∧ s.casState ∈ [CasState.acceptRxd, .seizeAckRxd]) ∨
      (i = .timerExpDoubleAnswer env ∧ tm = .doubleAnswer ∧ s.casState = .executingDoubleAnswer ∧
        s.txSig ∈ [some Signal.answer, some .clearBack]) ∨
      (i = .timerExpSetCallDown env ∧ tm = .setCallDown)) :
    exec i s = .next (ended [.evt (.osError .lineWrite)] .ioError (fired tm s)) := by
  simp only [List.mem_cons, List.not_mem_nil, or_false] at hi
  rcases hi with ⟨rfl, rfl, hc⟩ | ⟨rfl, rfl, hc⟩ | ⟨rfl, rfl, hc, hsig⟩ | ⟨rfl, rfl⟩
  · exact exec_expiry_failed (i := .timerExpSeizePersist env) rfl rfl hE hr
      ((see_pos (c := fun s => inGlare s = true) ((inGlare_iff _).mpr (by simpa [firedNow] using hc))).trans
        (congrFun (localClearForward_werr hw) _))
  · exact exec_expiry_failed (i := .timerExpAnswer env) rfl rfl hE hr
      ((see_pos (c := fun s => s.casState = .acceptRxd ∨ s.casState = .seizeAckRxd) (by exact hc)).trans
        (congrFun (txSignal_seq_werr hw) _))
  · refine exec_expiry_failed (i := .timerExpDoubleAnswer env) rfl rfl hE hr
      ((expireDoubleAnswer_toggles (by exact hc)).trans (congrFun ?_ _))
    rcases hsig with hsig | hsig
    · exact (if_pos hsig).trans (txSignal_seq_werr hw)
    · exact (if_neg (by simp [firedNow, hsig])).trans ((if_pos hsig).trans (txSignal_seq_werr hw))
  · exact exec_expiry_failed (i := .timerExpSetCallDown env) rfl rfl hE hr (congrFun (endCall_werr hw) _)

/-! ### A tone buffer that cannot be flushed (R183) -/

theorem exec_acceptCall_flush {mode : Mode} (hw : env.werr = true) (hr : NoReentry s) (h : CanAccept s)
    (hl : s.mfLive = true) (hg : s.mfGroup = .gb) (hn : acceptTone s.cfg mode ∉ [0, s.mfWriteTone]) :
    exec (.acceptCall mode env) s = .next (ended [.evt (.osError .toneFlush)] .ioError s) := by
  simp only [List.mem_cons, List.not_mem_nil, or_false, not_or] at hn
  exact exec_failed (i := .acceptCall mode env) rfl hr ((acceptCall_accepts (by exact h)).trans
    ((congrFun (if_pos (by exact ⟨hl, hg⟩)) _).trans ((acceptByTone_tone (by exact hn.1)).trans
      (bind_ioError (setTone_failed _ _ _ hw (by exact hn.1) (by exact hn.2))))))

theorem disconnectCall_flush {x : Ctx} (hw : x.env.werr = true) (ha : s.alarm = false) (hd : s.direction = .backward)
    (hk : s.casState ∉ [CasState.clearBackTxd, .clearForwardTxd, .clearForwardRxd]) (h : ToneDue cause s)
    (hn : causeTone s.cfg cause ≠ s.mfWriteTone) : disconnectCall cause x s = ioError x .toneFlush s := by
  obtain ⟨hc, _, _, hst, h0⟩ := id h
  simp only [List.mem_cons, List.not_mem_nil, or_false, not_or] at hk
  obtain ⟨h1, h2, h3⟩ := hk
  rw [disconnectCall_backward ⟨ha, by simp [hc], by simp [hst], by simp [h1, h2]⟩ h3 hd]
  refine bind_ioError ?_
  rw [disconnectBackward_tone h]
  exact (see_bind _ _).trans (bind_ioError (setTone_failed x _ s hw h0 hn))

/-! ### The end of a tone -/

theorem exec_toneOff_werr (hw : env.werr = true) (hr : NoReentry s) (hs : ToneStops s) (hd : s.direction = .backward)
    (hst : s.mfState = .disconnectTxd) :
    exec (.toneOff env) s = .next (ended [.evt (.osError .lineWrite)] .ioError { s with mfReadTone := 0 }) :=
  exec_toneOff_backward hs hd (by rw [hst]; exact congrFun (txSignal_seq_werr hw) _)
    ((Yields.ioError (x := topCtx env) rfl (by exact hr)).to (ended_of_bare (by rfl) (by rfl) _))

theorem exec_toneOff_flush {tone : Tone} (hw : env.werr = true) (hr : NoReentry s) (hs : ToneStops s)
    (hd : s.direction = .forward) (hdue : ToneIsDue tone s) (hn : tone ∉ [0, s.mfWriteTone]) :
    exec (.toneOff env) s = .next (ended [.evt (.osError .toneFlush)] .ioError { s with mfReadTone := 0 }) := by
  have hst : s.mfState ≠ .off := by
    rcases hdue with ⟨d, _, _, ⟨hst, _⟩ | ⟨hst, _⟩⟩ | ⟨hst, _⟩ | ⟨hst, _⟩ | ⟨hst, _⟩ <;> simp [hst]
  exact exec_toneOff_forward hs hd ((forwardToneOff_due (by exact hst)).trans (sendDue_failed (tone := tone) (by exact hdue) hw
      (by exact hn)))
    ((Yields.ioError (x := topCtx env) rfl (by exact hr)).to (ended_of_bare (by rfl) (by rfl) _))

/-! ### LINE -/

theorem incoming_detecting (s : State) : incoming (acquireMf (detecting s)) =
    { s with
      dtmfRxLive := if s.cfg.detectDtmf then true else s.dtmfRxLive
      mfLive := true, mfWriteTone := 0, mfReadTone := 0, direction := .backward, callState := .collecting
      mfGroup := .backInit, mfState := .off, casState := .seizeRxd
      out := s.out ++ (if s.cfg.detectDtmf then [.dtmfRxInit] else []) ++ [.mfInit false, .mfInit true] } := by
  rw [detecting_eq]
  rfl

/-- The rows of LINE that write the line or flush a tone. -/
theorem exec_line_werr {r : LineCode} (hw : env.werr = true) (hr : NoReentry s) (hc : LineCommits env r s) :
    (∀ sig : Signal, (s.casState = .clearBackTxd ∧ sig = .clearForward) ∨ (s.casState = .clearForwardTxd ∧ sig = .idle) →
      r = code s.cfg sig → exec (.line env) s =
        .next (ended (commitActions env.line (some sig) s ++ [Action.evt (.osError .lineWrite)]) .ioError
          (committed env.line (some sig) s))) := by
  rintro sig (⟨hk, rfl⟩ | ⟨hk, rfl⟩) h
  · exact exec_line_ioError hc (by rw [hk]; exact decodeSignal_clearForward (by simp) h) (by exact hr)
      ((congrFun (by rw [hk]; rfl) _).trans (congrFun (endCall_werr (x := topCtx env) hw) _)) (by rfl) (by rfl)
  · exact exec_line_ioError hc (by rw [hk]; exact decodeSignal_clearing_idle h) (by exact hr)
      ((congrFun (by rw [hk]; rfl) _).trans (congrFun (endCall_werr (x := topCtx env) hw) _)) (by rfl) (by rfl)

/-- The automatic Seize-Ack of an incoming call (R140, R144). -/
theorem exec_line_seizeAck_werr {r : LineCode} (hw : env.werr = true) (hr : NoReentry s) (hc : LineCommits env r s)
    (hk : s.casState ∈ [CasState.init, .idle]) (hi : r ≠ code s.cfg .idle) (hb : r ≠ code s.cfg .block)
    (h : r = code s.cfg .seize) (hie : env.ierr = false) (hauto : s.cfg.autoSeizeAck = true) :
    exec (.line env) s =
      .next (ended
        (commitActions env.line (some .seize) s ++ (if s.cfg.detectDtmf then [Action.dtmfRxInit] else []) ++
          [Action.mfInit false, .mfInit true, .evt (.osError .lineWrite)])
        .ioError
        { committed env.line (some .seize) s with
          dtmfRxLive := if s.cfg.detectDtmf then true else s.dtmfRxLive
          mfLive := true, mfWriteTone := 0, mfReadTone := 0, direction := .backward, callState := .collecting
          mfGroup := .backInit, mfState := .off, casState := .seizeRxd }) := by
  have hrun : act (topCtx env) r .seize s.casState (seen env.line (some .seize) (startTrace s)) =
      ioError (topCtx env) .lineWrite (incoming (acquireMf (detecting (seen env.line (some .seize) (startTrace s))))) :=
    (congrFun (act_seize_incoming hk r) _).trans ((incomingCall_auto (by exact hie) (by exact hauto)).trans
      (bind_ioError (congrFun (txSignal_seq_werr (by exact hw)) _)))
  rw [incoming_detecting] at hrun
  refine (exec_line_ioError hc (decodeSignal_seize hk hi hb h) (by exact hr) hrun rfl rfl).trans ?_
  refine congrArg Host.Outcome.next (ended_of_bare ?_ (by rfl) _)
  exact List.append_assoc _ [Action.mfInit false, .mfInit true] [.evt (.osError .lineWrite)]

/-- The first tone of the exchange (R143, R210). -/
theorem exec_line_digit_werr {r : LineCode} (hw : env.werr = true) (hr : NoReentry s) (hc : LineCommits env r s)
    (hk : s.casState = .seizeTxd) (hd : s.cfg.dialWithDtmf = false) (hie : env.ierr = false)
    (hcode : r = code s.cfg .seizeAck ∨ (s.cfg.frIsSeizeAck = true ∧ r = code s.cfg .forcedRelease))
    (hdig : (∃ d ds, s.dnis = d :: ds ∧ d.toNat ≤ 9) ∨ (s.dnis = [] ∧ s.cfg.g1.noMoreDnisAvailable ≠ 0)) :
    exec (.line env) s =
      .next (ended
        (commitActions env.line (some .seizeAck) s ++ cancelsOf [.seize] s ++
          [Action.mfInit false, .mfInit true, .evt (.osError .toneFlush)])
        .ioError
        { committed env.line (some .seizeAck) s with
          casState := .seizeAckRxd, mfGroup := .gi, mfState := if s.dnis = [] then .dnisEndTxd else .dnisTxd
          dnisIndex := 0, mfLive := true, mfReadTone := 0, mfWriteTone := 0
          armed := withoutTimers [.casPersistenceCheck, .seize] s.armed }) := by
  have hdec : decodeSignal s.cfg r s.casState = some .seizeAck := by rw [hk]; exact decodeSignal_seizeAck hcode
  have hrun : startExchange (topCtx env) (acknowledged (seen env.line (some .seizeAck) (startTrace s))) =
      ioError (topCtx env) .toneFlush { exchangeOpen (acknowledged (seen env.line (some .seizeAck) (startTrace s))) with
        mfState := if s.dnis = [] then .dnisEndTxd else .dnisTxd } := by
    rcases hdig with ⟨d, ds, hdn, h9⟩ | ⟨hdn, ht⟩
    · rw [if_neg (by simp [hdn])]
      exact (startExchange_digit (by exact hd) (by exact hie) (by exact hdn) h9).trans
        (setTone_failed _ _ _ hw (digitTone_ne_zero h9) (by exact digitTone_ne_zero h9))
    · rw [if_pos hdn]
      exact (startExchange_end (by exact hd) (by exact hie) (by exact hdn) (by exact ht)).trans
        (setTone_failed _ _ _ hw (by exact ht) (by exact ht))
  refine (exec_line_ioError hc hdec (by exact hr) ((act_seizeAck hk _).trans (bind_ioError hrun))
    (congrArg (· ++ [Action.mfInit false, .mfInit true]) (acknowledged_seen_out env.line s)) rfl).trans ?_
  refine congrArg Host.Outcome.next (ended_of_bare ?_ (by rfl) _)
  exact List.append_assoc _ [Action.mfInit false, .mfInit true] [.evt (.osError .toneFlush)]

/-! ### A line that cannot be read (R130, R261, R297) -/

theorem lineOp_lerr {x : Ctx} (ha : s.alarm = false) (hl : x.env.lerr = true) : lineOp x s = ioError x .lineRead s :=
  (see_neg (c := fun s => s.alarm = true) (by simp [ha])).trans (bind_ioError (congrFun (if_pos hl) s))

theorem resync_lerr {x : Ctx} (hl : x.env.lerr = true) : resync x s = ioError x .lineRead s :=
  bind_ioError (congrFun (if_pos hl) s)

end Failed

/-- Settles O57. -/
theorem failedIoIsReported : Obligations.FailedIoIsReported := by
  intro env s expired hr
  refine ⟨fun i hw hi => ?_, fun mode hw h hl hg hn => exec_acceptCall_flush hw hr h hl hg hn,
    fun cause hw ha hd hk h hn => exec_failed (i := .disconnectCall cause env) rfl hr
      (disconnectCall_flush hw (by exact ha) (by exact hd) (by exact hk) (by exact h) (by exact hn)),
    fun i tm hw hE hi => exec_expiry_werr hw hE hr hi, fun hw hs => ⟨fun hd hst => exec_toneOff_werr hw hr hs hd hst,
      fun tone hd hdue hn => exec_toneOff_flush hw hr hs hd hdue hn⟩, fun r hw hc => ⟨exec_line_werr hw hr hc,
      fun hk hi hb h hie hauto => ?_, fun hk hd hie hcode hdig => ?_⟩, fun hl => ⟨fun ha => ?_, fun hE => ?_, fun ha => ?_⟩⟩
  · obtain ⟨hwf, hrun⟩ := ruleOf_werr (s := startTrace s) hw hi
    exact exec_failed hwf hr hrun
  · exact exec_line_seizeAck_werr hw hr hc hk hi hb h hie hauto
  · exact exec_line_digit_werr hw hr hc hk hd hie hcode hdig
  · exact exec_failed (i := .line env) rfl hr (lineOp_lerr (by exact ha) hl)
  · refine exec_expiry (i := .timerExpCasPersistenceCheck env) rfl rfl hE (m := ioError (topCtx env) .lineRead)
      ((congrFun (if_pos (by exact hl)) _).trans (upd_bind _ _ _))
      ((Yields.ioError (x := topCtx env) rfl (by exact hr)).to (ended_of_bare (by rfl) (by rfl) _))
  · exact exec_failed (i := .alarm false env) rfl hr ((see_pos (c := fun s => s.alarm = true) (by exact ha)).trans
      (resync_lerr hl))

end Sys2Proof.Machine
end

section
/-! PROOFS. Sequences of operations (spec/70_reset_and_hazards.md section 3, spec/44_lifecycle_overlay.md R312,
spec/41_tone_events.md R196): the races that converge, and the DNIS received digit by digit. -/

namespace Sys2Proof.Machine

/-! ### The answer race (R373) -/

section Race
variable {mode : Mode} {acts : List Action} {s : State}

theorem toneAccepted_pending (h : s.casState = .answerRxdMfPending) : toneAccepted mode acts s =
    ended (acts ++ cancelsOf [.answer] s ++ [Action.evt (.callAccepted mode), .evt .callAnswered]) .ok
      { s with
        mfState := .off, casState := .answerRxd, callState := .answered, answered := true
        armed := withoutTimers [.answer] s.armed } := if_pos h

theorem toneAccepted_first (h : s.casState ≠ .answerRxdMfPending) : toneAccepted mode acts s =
    ended (acts ++ armActions .answer s ++ [Action.evt (.callAccepted mode)]) .ok
      { s with
        mfState := .off, casState := .acceptRxd, callState := .accepted, armed := s.armed ||| timerBit .answer } := if_neg h

/-- A timer armed and cancelled again, among other cancels. -/
theorem withoutTimers_armed {us : List Timer} {u : Timer} (hu : u ∈ us) (a : BitVec 12) :
    withoutTimers us (a ||| timerBit u) = withoutTimers us a := by
  apply BitVec.eq_of_getLsbD_eq
  intro i hi
  obtain ⟨v, rfl⟩ := exists_timer_index hi
  rw [withoutTimers_getLsbD, withoutTimers_getLsbD, BitVec.getLsbD_or, timerBit_getLsbD]
  by_cases e : v = u
  · simp [e, hu]
  · simp [e]

@[simp] theorem eventsOf_commitActions (raw : LineCode) (sig : Option Signal) (s : State) :
    eventsOf (commitActions raw sig s) = [] := by
  simp only [commitActions, eventsOf_append, eventsOf_cancelsOf]
  rfl

@[simp] theorem eventsOf_forwardActions (s : State) : eventsOf (forwardActions s) = [] := by
  simp only [forwardActions, eventsOf_append, eventsOf_cancelsOf, eventsOf_toneActions, List.append_nil]

@[simp] theorem eventsOf_backwardActions (s : State) : eventsOf (backwardActions s) = [] := eventsOf_cancelsOf _ _

@[simp] theorem eventsOf_evt (ev : Event) : eventsOf [.evt ev] = [ev] := rfl

/-- An accept tone of the decision (R217). -/
theorem exec_toneOn_accepts {t : Tone} {env : Env} (hs : ToneStarts t s) (hr : NoReentry s) (hd : s.direction = .forward)
    (hg : s.mfGroup = .gii) (hst : s.mfState ≠ .off)
    (ht : t ∈ [s.cfg.gb.acceptCallWithCharge, s.cfg.gb.acceptCallNoCharge, s.cfg.gb.acceptCallSpecial]) :
    exec (.toneOn t env) s = .next (toneAccepted (modeOfTone s.cfg t) (forwardActions s) (heardForward t s)) :=
  (forwardSideTakesTheDecision t env s hs hr hd hg hst).1 ht

/-- The channel after an Answer that came before the accept tone (R147). -/
def answerNoted (raw : LineCode) (s : State) : State :=
  ended (commitActions raw (some .answer) s) .ok { committed raw (some .answer) s with casState := .answerRxdMfPending }

/-- The channel after an accept tone that came before the Answer (R224). -/
def acceptNoted (t : Tone) (s : State) : State :=
  ended (forwardActions s ++ armActions .answer (heardForward t s) ++ [Action.evt (.callAccepted (modeOfTone s.cfg t))]) .ok
    { heardForward t s with
      mfState := .off, casState := .acceptRxd, callState := .accepted
      armed := (heardForward t s).armed ||| timerBit .answer }

end Race

/-- Settles O58. -/
theorem answerRaceConverges : Obligations.AnswerRaceConverges := by
  intro lineEnv toneEnv r t s hc hs hr hk hd hg hst hcode ht
  have lineFirst : exec (.line lineEnv) s = .next (answerNoted lineEnv.line s) :=
    (peerAnswerIsReported lineEnv r s hc hr hcode).2.2 hk (by rw [hg]; decide)
  have toneSecond := exec_toneOn_accepts (env := toneEnv) (s := answerNoted lineEnv.line s) hs (noReentry_nil rfl) hd hg hst ht
  rw [toneAccepted_pending rfl] at toneSecond
  have toneFirst : exec (.toneOn t toneEnv) s = .next (acceptNoted t s) :=
    (exec_toneOn_accepts hs hr hd hg hst ht).trans (congrArg _ (toneAccepted_first (by simp [heardForward, hk])))
  have lineSecond := (peerAnswerIsReported lineEnv r (acceptNoted t s) hc (noReentry_nil rfl) hcode).1 rfl
  refine ⟨_, _, _, _, lineFirst, toneSecond, toneFirst, lineSecond, ?_, rfl, rfl, ?_, ?_⟩
  · have harmed : withoutTimers [.answer] (withoutTimers [.mfFwdSafety] (withoutTimers [.casPersistenceCheck] s.armed)) =
        withoutTimers [.casPersistenceCheck, .answer] (withoutTimers [.mfFwdSafety] s.armed ||| timerBit .answer) := by
      rw [withoutTimers_armed (by simp), ← withoutTimers_append, ← withoutTimers_append, ← withoutTimers_append]
      exact withoutTimers_congr (by simp; tauto) _
    simp only [ended, heardForward, answerNoted, acceptNoted, committed, harmed]
  · simp [answerNoted, ended]
    rfl
  · simp [acceptNoted, ended]
    rfl

/-! ### Glare (R312) -/

section Glare
variable {env : Env} {s : State}

/-- The channel after the persist timer expired in glare (R155, R251). -/
def glareLeft (s : State) : State :=
  ended (lineActions s.cfg .clearForward ++ armActions .setCallDown s) .ok
    { transmitted .clearForward s with
      casState := .clearForwardTxd, armed := withoutTimers [.seizePersist] s.armed ||| timerBit .setCallDown }

/-- The channel after the peer's Clear-Forward in glare (R154). -/
def glareCleared (raw : LineCode) (s : State) : State :=
  ended (commitActions raw (some .clearForward) s) .ok
    { committed raw (some .clearForward) s with casState := .doubleSeizureClearFwdPending }

end Glare

/-- Settles O59. -/
theorem glareConvergesEitherWay : Obligations.GlareConvergesEitherWay := by
  intro lineEnv timerEnv s hc hcode hr hk harm hw hw'
  have halarm : s.alarm = false := hc.1
  have timerFirst : exec (.timerExpSeizePersist timerEnv) s = .next (glareLeft s) :=
    (clearingTimersAct timerEnv s halarm hr hw').1 harm hk
  have lineSecond := (clearForwardAndCallEnd lineEnv _ (glareLeft s) hc (noReentry_nil rfl)).2.2 rfl hcode hw
  have lineFirst : exec (.line lineEnv) s = .next (glareCleared lineEnv.line s) :=
    (glareIsReportedOnce lineEnv _ s hc hr).2 hk rfl
  have hlive : isArmed .seizePersist (glareCleared lineEnv.line s) = true := by
    rw [← harm]
    exact isArmed_seen (raw := lineEnv.line) (sig := some .clearForward) (by decide)
  have timerSecond := (clearingTimersAct timerEnv (glareCleared lineEnv.line s) halarm (noReentry_nil rfl) hw').2.1 hlive rfl
  refine ⟨_, _, _, _, timerFirst, lineSecond, lineFirst, timerSecond, rfl, rfl, rfl, ?_, ?_, ?_⟩
  · simp only [ended, baselineOf, transmitted, committed, glareLeft, glareCleared]
  · simp [glareLeft, ended]
    rfl
  · simp [glareCleared, ended]
    rfl

/-! ### The DNIS received digit by digit (R196) -/

section Dialled
variable {d : Digit} {env : Env} {s : State}

theorem toneDigit_digitTone (h : d.toNat ≤ 9) : toneDigit (digitTone d) = some d := by
  by_cases h0 : d = 0
  · rw [h0]
    rfl
  · have h9 : d ≤ 9 := h
    rw [digitTone, if_neg h0, if_pos h9, toneDigit, if_neg h0, if_pos h9]

/-- A backward side that asks for the next DNIS digit and hears nothing. -/
structure Collects (s : State) : Prop where
  resp : s.resp = []
  alarm : s.alarm = false
  side : s.direction = .backward
  live : s.mfLive = true
  silent : s.mfReadTone = 0
  group : s.mfGroup = .ga
  state : s.mfState = .dnisRqTxd
  unfinished : s.dnisDone = false
  dnisFirst : ¬ (s.cfg.getAniFirst = true ∧ s.cfg.aniCanComeFirst = true)
  tone : s.cfg.ga.requestNextDnisDigit ≠ 0

/-- Without ANI first, DNIS is asked for until it is done (R188). -/
theorem nextPhase_dnis (hf : ¬ (s.cfg.getAniFirst = true ∧ s.cfg.aniCanComeFirst = true)) (hd : s.dnisDone = false) :
    nextPhase s = .dnis := by
  have hfirst : (s.cfg.getAniFirst && s.cfg.aniCanComeFirst) = false := by simpa using hf
  simp [nextPhase, hfirst, hd]

/-- In Group A, the request for the next DNIS digit (R188). -/
theorem asked_dnis {acts : List Action} (hf : ¬ (s.cfg.getAniFirst = true ∧ s.cfg.aniCanComeFirst = true))
    (hd : s.dnisDone = false) (hg : s.mfGroup = .ga) (ht : s.cfg.ga.requestNextDnisDigit ≠ 0) (hw : env.werr = false) :
    asked false env acts s =
      ended (acts ++ toneActions s.cfg.ga.requestNextDnisDigit s ++ armActions .mfBackCycle s) .ok
        { s with
          mfWriteTone := s.cfg.ga.requestNextDnisDigit, mfState := .dnisRqTxd
          armed := s.armed ||| timerBit .mfBackCycle } := by
  have hgc : s.mfGroup ≠ .gc := by simp [hg]
  have htone : phaseTone s .dnis = s.cfg.ga.requestNextDnisDigit := if_neg hgc
  have hgroup : phaseGroup s .dnis = s.mfGroup := if_neg hgc
  simp only [asked, nextPhase_dnis hf hd, htone, hgroup, if_neg ht]
  rw [if_neg (by simp [hw])]
  rfl

/-- The channel after a DNIS digit that leaves room for another: the digit stored, the next one asked for (R196, R188). -/
def digitTaken (d : Digit) (s : State) : State :=
  let heard := { heardBackward (digitTone d) s with mfGroup := .ga, dnis := s.dnis ++ [d], dnisDone := false }
  ended (backwardActions s ++ [Action.evt (.dnisDigitReceived d)] ++ toneActions s.cfg.ga.requestNextDnisDigit heard ++
      armActions .mfBackCycle heard) .ok
    { heard with
      mfWriteTone := s.cfg.ga.requestNextDnisDigit, mfState := .dnisRqTxd
      armed := heard.armed ||| timerBit .mfBackCycle }

theorem exec_digit_on (h : Collects s) (hw : env.werr = false) (hd : d.toNat ≤ 9)
    (hroom : s.dnisLen + 1 < s.cfg.maxDnis.toNat) : exec (.toneOn (digitTone d) env) s = .next (digitTaken d s) := by
  have starts : ToneStarts (digitTone d) s := ⟨h.alarm, h.live, h.silent, digitTone_ne_zero hd⟩
  have taken := (backwardSideCollectsDnis (digitTone d) env s starts (noReentry_nil h.resp) h.side
    (.inr ⟨by simp [h.group], h.state⟩)).1 d (toneDigit_digitTone hd) |>.1 (by omega)
  have hdone : (s.dnisDone || respStop (s.resp.headD 0) || decide (s.dnisLen + 1 = s.cfg.maxDnis.toNat)) = false := by
    rw [h.unfinished, h.resp, decide_eq_false (by omega)]
    rfl
  have hga : (if s.mfGroup = .backInit then .ga else s.mfGroup) = MfGroup.ga := by
    rw [h.group]
    rfl
  rw [hdone, hga] at taken
  exact taken.trans (congrArg _ (asked_dnis h.dnisFirst rfl rfl h.tone hw))

theorem exec_digit_off (h : Collects s) (hd : d.toNat ≤ 9) : exec (.toneOff env) (digitTaken d s) =
    .next (ended (toneActions 0 (digitTaken d s)) .ok { digitTaken d s with mfReadTone := 0, mfWriteTone := 0 }) := by
  have stops : ToneStops (digitTaken d s) := ⟨h.alarm, h.live, digitTone_ne_zero hd⟩
  exact (backwardSideFinishesPhases env (digitTaken d s) stops (noReentry_nil rfl) h.side).1 (by simp [digitTaken, ended])

theorem eventsOf_digitTaken : eventsOf (digitTaken d s).out = [.dnisDigitReceived d] := by
  simp only [digitTaken, ended, eventsOf_append, eventsOf_backwardActions, eventsOf_evt, eventsOf_toneActions,
    eventsOf_armActions]
  rfl

/-- One digit of the string: a tone-on and a tone-off (R196). -/
theorem runOps_digit (h : Collects s) (hw : env.werr = false) (hd : d.toNat ≤ 9)
    (hroom : s.dnisLen + 1 < s.cfg.maxDnis.toNat) (is : List Instr) :
    ∃ t, runOps (.toneOn (digitTone d) env :: .toneOff env :: is) s =
        (runOps is t).map (fun r => (r.1, .dnisDigitReceived d :: r.2)) ∧
      Collects t ∧ t.dnis = s.dnis ++ [d] ∧ t.cfg = s.cfg := by
  refine ⟨ended (toneActions 0 (digitTaken d s)) .ok { digitTaken d s with mfReadTone := 0, mfWriteTone := 0 }, ?_,
    ⟨rfl, h.alarm, h.side, h.live, rfl, rfl, rfl, rfl, h.dnisFirst, h.tone⟩, rfl, rfl⟩
  have silent : eventsOf (toneActions 0 (digitTaken d s) ++ [Action.status .ok]) = [] := by simp
  simp only [runOps, exec_digit_on h hw hd hroom, exec_digit_off h hd, eventsOf_digitTaken]
  cases runOps is _ with
  | none => rfl
  | some r => simp only [Option.map_some, ended, silent, List.nil_append, List.cons_append]

end Dialled

/-- Settles O60, by induction on the string. -/
theorem receivedDnisIsTheDialledString : Obligations.ReceivedDnisIsTheDialledString := by
  intro ds env s hds hw hresp halarm hside hlive hsilent hgroup hstate hopen hfirst htone hroom
  have h : Collects s := ⟨hresp, halarm, hside, hlive, hsilent, hgroup, hstate, hopen, hfirst, htone⟩
  clear hresp halarm hside hlive hsilent hgroup hstate hopen hfirst htone
  induction ds generalizing s with
  | nil => exact ⟨s, rfl, (List.append_nil _).symm, h.state, h.unfinished⟩
  | cons d ds ih =>
    rw [List.length_cons] at hroom
    obtain ⟨u, hrun, hu, hdnis, hcfg⟩ := runOps_digit h hw (hds d (by simp)) (by omega)
      (ds.flatMap fun d => [.toneOn (digitTone d) env, .toneOff env])
    have hlen : u.dnisLen = s.dnisLen + 1 := by simp [State.dnisLen, hdnis]
    obtain ⟨t, hrest, hall, hst, hd⟩ := ih u (fun e he => hds e (by simp [he])) (by rw [hlen, hcfg]; omega) hu
    refine ⟨t, hrun.trans ?_, by rw [hall, hdnis, List.append_assoc]; rfl, hst, hd⟩
    rw [hrest]
    rfl

end Sys2Proof.Machine
end

section
/-! PROOFS. Re-entry (spec/30_encoding.md R97, spec/44_lifecycle_overlay.md R316, R317): what an event does whose response
nests an operation, and the two nested runs said out. -/

namespace Sys2Proof.Machine

/-! ### Events that nest -/

section Nested
variable {env : Env} {ev : Event} {i : Instr} {resp : RespBits} {rs : List RespBits} {s u : State} {x : Ctx}

/-- The context of an operation nested in a top-level one (R97, R316): the top-level word's environment, nothing nested
inside it. -/
def nestedCtx (env : Env) : Ctx := { env := env, reenter := reenter env 0 }

theorem told_of_resp (ev : Event) (hr : s.resp = resp :: rs) :
    told ev s = { s with out := s.out ++ [.evt ev], resp := rs } := by rw [told, hr, List.tail_cons]

/-- An event whose nested operation runs nothing. -/
theorem emit_silent (ev : Event) (hr : s.resp = resp :: rs) (h : x.reenter (respOpWord resp) = pure ()) :
    emit x ev s = .ok resp (told ev s) := by
  rw [emit_eq, hr, List.headD_cons, h]
  cases respHasOp resp <;> rfl

theorem notify_silent (ev : Event) (hr : s.resp = resp :: rs) (h : x.reenter (respOpWord resp) = pure ()) :
    notify x ev s = .ok () { s with out := s.out ++ [.evt ev], resp := rs } := by
  rw [← told_of_resp ev hr]
  exact bind_ok (emit_silent ev hr h)

/-- An event operation and an illegal word run nothing when nested (R97). -/
theorem nestedWord_silent (x : Ctx) {w : OpBits} (h : ∀ i, decode w = .instr i → isCallControl i = false) :
    nestedWord x w = pure () := by
  unfold nestedWord
  cases hd : decode w with
  | illegal w => rfl
  | instr i =>
    show nestedOperation x i = pure ()
    rw [nestedOperation_eq, h i hd]
    rfl

/-- An event whose response nests a call-control operation (R97). -/
theorem emit_nested (hr : s.resp = resp :: rs) (hop : respHasOp resp = true) (hdec : decode (respOpWord resp) = .instr i)
    (hcc : isCallControl i = true) (h : ruleOf i (nestedCtx env) (told ev s) = .ok () u) :
    emit (topCtx env) ev s = .ok resp u := by
  have hword : (topCtx env).reenter (respOpWord resp) = ruleOf i (nestedCtx env) := by
    show nestedWord (nestedCtx env) (respOpWord resp) = _
    unfold nestedWord
    rw [hdec]
    exact (nestedOperation_eq _ i).trans (if_pos hcc)
  rw [emit_eq, hr, List.headD_cons, hword, hop]
  exact bind_ok h

theorem notify_nested (hr : s.resp = resp :: rs) (hop : respHasOp resp = true)
    (hdec : decode (respOpWord resp) = .instr i) (hcc : isCallControl i = true)
    (h : ruleOf i (nestedCtx env) (told ev s) = .ok () u) : notify (topCtx env) ev s = .ok () u :=
  bind_ok (emit_nested hr hop hdec hcc h)

/-- An event followed by a state-bound action, from the run of the event. -/
theorem emitGuarded_of_emit {r : RespBits} (h : emit x ev s = .ok r u) :
    emitGuarded x ev s = .ok (if snapshot u = snapshot s then some r else none) u := by
  unfold emitGuarded
  rw [see_bind, bind_ok h]
  rfl

end Nested

/-! ### The two nested runs -/

section Runs
variable {x : Ctx} {s u : State} {cause : Cause}

/-- SET_BLOCKED as a rule (R292, R293). -/
theorem setBlocked_ok (hw : x.env.werr = false) : setBlocked x s =
    .ok ()
      { baselineOf (transmitted .block s) with
        casState := .blocked, out := s.out ++ lineActions s.cfg .block ++ baselineActions s ++ [.status .ok] } := by
  unfold setBlocked
  rw [bind_ok (txSignal_sent .block hw s), upd_bind, upd_bind, status_apply, resetBaseline_eq]
  rfl

/-- DISCONNECT_CALL on the forward side, away from glare (R287). -/
theorem disconnectCall_clears (hw : x.env.werr = false) (h : Disconnectable s) (hd : s.direction = .forward)
    (hk : s.casState ∉ [CasState.doubleSeizure, .doubleSeizureClearFwdPending, .clearForwardRxd]) :
    disconnectCall cause x s = .ok () (output (.status .ok)
      { released (transmitted .clearForward s) with
        casState := .clearForwardTxd, callState := .disconnected
        armed := withoutTimers callTimers s.armed ||| timerBit .setCallDown
        out := s.out ++ lineActions s.cfg .clearForward ++ cancelsOf callTimers s ++ releaseActions s ++
          [.tmrArm .setCallDown (duration s.cfg .setCallDown)] }) := by
  simp only [List.mem_cons, List.not_mem_nil, or_false, not_or] at hk
  obtain ⟨h1, h2, h3⟩ := hk
  exact (disconnectCall_forward h h3 hd).trans
    ((bind_ok ((disconnectForward_clears (by simp [h1, h2])).trans (clearForward_ok hw))).trans (status_apply _ _))

/-- A callback that changes the snapshot ends the rule (R149, R317). -/
theorem acceptThenAnswer_stops {mode : Mode} {r : RespBits}
    (h : emit x (.callAccepted mode)
      { s with
        callState := .accepted, armed := withoutTimers [.answer] s.armed, out := s.out ++ cancelsOf [.answer] s } = .ok r u)
    (hk : u.casState ≠ s.casState) : acceptThenAnswer x mode s = .ok () u := by
  have hsnap : ∀ t : State, t.casState = s.casState → ¬ snapshot u = snapshot t := fun t ht e =>
    hk ((congrArg Snapshot.casState e).trans ht)
  unfold acceptThenAnswer
  rw [upd_bind, upd_bind, cancel_eq]
  refine (bind_ok (emitGuarded_of_emit h)).trans ?_
  rw [if_neg (hsnap _ (by rfl))]
  rfl

end Runs

theorem withoutTimers_eq_zero {us : List Timer} (h : ∀ u, u ∈ us) (a : BitVec 12) : withoutTimers us a = 0 :=
  (withoutTimers_congr (fun u => iff_of_true (h u) (mem_allTimers u)) a).trans (withoutTimers_all a)

/-! ### call-accepted on a DTMF call (R147, R149) -/

section DtmfAnswer
variable {env env' : Env} {r : LineCode} {resp : RespBits} {rs : List RespBits} {s : State} {cause : Cause}

/-- The channel when call-accepted has left and the nested operation starts. -/
def dtmfAccepted (raw : LineCode) (rs : List RespBits) (s : State) : State :=
  { committed raw (some .answer) s with
    callState := .accepted
    armed := withoutTimers [.casPersistenceCheck, .answer] s.armed
    out := commitActions raw (some .answer) s ++ cancelsOf [.answer] s ++ [Action.evt (.callAccepted .unknown)]
    resp := rs }

theorem told_dtmfAccepted (raw : LineCode) (hr : s.resp = resp :: rs) :
    told (.callAccepted .unknown)
      { seen raw (some .answer) (startTrace s) with
        callState := .accepted
        armed := withoutTimers [.answer] (seen raw (some .answer) (startTrace s)).armed
        out := (seen raw (some .answer) (startTrace s)).out ++
          cancelsOf [.answer] (seen raw (some .answer) (startTrace s)) } = dtmfAccepted raw rs s := by
  rw [told_of_resp _ (by exact hr), cancelsOf_seen [.answer] (by decide)]
  rfl

/-- The nested DISCONNECT_CALL's end: the call cleared, nothing left armed but the set-call-down timer. -/
def dtmfCleared (raw : LineCode) (rs : List RespBits) (s : State) : State :=
  { released (transmitted .clearForward (committed raw (some .answer) s)) with
    casState := .clearForwardTxd, callState := .disconnected, armed := timerBit .setCallDown, resp := rs
    out := commitActions raw (some .answer) s ++ cancelsOf [.answer] s ++ [Action.evt (.callAccepted .unknown)] ++
      lineActions s.cfg .clearForward ++
      cancelsOf [.seize, .seizePersist, .answerDelay, .doubleAnswer, .setCallDown, .meteringPulse, .mfBackCycle,
        .mfBackResumeCycle, .mfFwdSafety, .dtmfStartDial] s ++
      releaseActions s ++ [Action.tmrArm .setCallDown (duration s.cfg .setCallDown), .status .ok] }

theorem disconnectCall_dtmfAccepted (hc : LineCommits env r s) (hk : s.casState = .seizeAckRxd)
    (hd : s.direction = .forward) (hst : s.mfState ≠ .disconnectTxd) (hw : env.werr = false) (raw : LineCode) :
    disconnectCall cause (nestedCtx env) (dtmfAccepted raw rs s) = .ok () (dtmfCleared raw rs s) := by
  have hcalls : cancelsOf callTimers (dtmfAccepted raw rs s) = cancelsOf [.seize, .seizePersist, .answerDelay,
      .doubleAnswer, .setCallDown, .meteringPulse, .mfBackCycle, .mfBackResumeCycle, .mfFwdSafety, .dtmfStartDial] s :=
    cancelsOf_left [.casPersistenceCheck, .answer] rfl callTimers
  have harmed : withoutTimers callTimers (dtmfAccepted raw rs s).armed = 0 := by
    show withoutTimers callTimers (withoutTimers [.casPersistenceCheck, .answer] s.armed) = 0
    rw [← withoutTimers_append]
    exact withoutTimers_eq_zero (fun u => by cases u <;> decide) _
  have hcas : (dtmfAccepted raw rs s).casState = .seizeAckRxd := hk
  have hdisc : Disconnectable (dtmfAccepted raw rs s) := ⟨hc.1, CallState.noConfusion, hst, by simp [hcas]⟩
  rw [disconnectCall_clears hw hdisc hd (by simp [hcas]), hcalls, harmed]
  refine congrArg (EStateM.Result.ok ()) ?_
  simp only [output, dtmfCleared, released, transmitted, dtmfAccepted, committed, List.append_assoc]
  rfl

/-- LINE Answer on a DTMF call whose call-accepted is answered with DISCONNECT_CALL. -/
theorem exec_line_dtmfCleared (hc : LineCommits env r s) (hk : s.casState = .seizeAckRxd) (hg : s.mfGroup = .dtmfFwdInit)
    (hd : s.direction = .forward) (hst : s.mfState ≠ .disconnectTxd) (hw : env.werr = false) (hcode : r = code s.cfg .answer)
    (hr : s.resp = resp :: rs) (hop : respHasOp resp = true)
    (hdec : decode (respOpWord resp) = .instr (.disconnectCall cause env')) :
    exec (.line env) s = .next (ended (dtmfCleared env.line rs s).out .ok (dtmfCleared env.line rs s)) := by
  have hemit : emit (topCtx env) (.callAccepted .unknown)
      { seen env.line (some .answer) (startTrace s) with
        callState := .accepted
        armed := withoutTimers [.answer] (seen env.line (some .answer) (startTrace s)).armed
        out := (seen env.line (some .answer) (startTrace s)).out ++
          cancelsOf [.answer] (seen env.line (some .answer) (startTrace s)) } = .ok resp (dtmfCleared env.line rs s) := by
    refine emit_nested (by exact hr) hop hdec rfl ?_
    rw [told_dtmfAccepted env.line hr]
    exact disconnectCall_dtmfAccepted hc hk hd hst hw env.line
  have hne : CasState.clearForwardTxd ≠ s.casState := by simp [hk]
  exact exec_line_row hc (by rw [hk]; exact decodeSignal_answer (by simp) hcode)
    ((congrFun (by rw [hk]; rfl) _).trans ((answerBeforeAccept_dtmf (by exact hg)).trans (acceptThenAnswer_stops hemit hne)))
    rfl rfl

end DtmfAnswer

/-! ### line-idle answered with SET_BLOCKED (R138) -/

/-- The channel after SET_BLOCKED nested in line-idle. -/
def idleBlocked (raw : LineCode) (rs : List RespBits) (s : State) : State :=
  { baselineOf (transmitted .block (committed raw (some .idle) s)) with
    casState := .blocked, resp := rs
    out := commitActions raw (some .idle) s ++ [Action.evt .lineIdle] ++ lineActions s.cfg .block ++
      baselineActions (committed raw (some .idle) s) ++ [Action.status .ok] }

theorem exec_line_idleBlocked {env env' : Env} {r : LineCode} {resp : RespBits} {rs : List RespBits} {s : State}
    (hc : LineCommits env r s) (hk : s.casState ∈ [CasState.init, .idle, .blocked]) (hw : env.werr = false)
    (hcode : r = code s.cfg .idle) (hr : s.resp = resp :: rs) (hop : respHasOp resp = true)
    (hdec : decode (respOpWord resp) = .instr (.setBlocked env')) :
    exec (.line env) s = .next (ended (idleBlocked env.line rs s).out .ok (idleBlocked env.line rs s)) := by
  have hrun : setBlocked (nestedCtx env) (told .lineIdle (seen env.line (some .idle) (startTrace s))) =
      .ok () (idleBlocked env.line rs s) := by
    rw [told_of_resp _ (by exact hr), setBlocked_ok hw]
    rfl
  exact exec_line_row hc (decodeSignal_idle hk hcode)
    ((congrFun (act_idle_event hk r) _).trans (notify_nested (by exact hr) hop hdec rfl hrun)) rfl rfl

/-- Settles O56. -/
theorem reentryRunsInsideTheOperation : Obligations.ReentryRunsInsideTheOperation := by
  intro env env' r resp rs s blocked cleared hr
  exact ⟨fun ev h => notify_silent ev hr (nestedWord_silent _ h), fun ev => notify_silent ev hr rfl,
    fun hc hw hop => ⟨fun hk hcode hdec => exec_line_idleBlocked hc hk hw hcode hr hop hdec,
      fun cause hk hg hd hst hcode hdec => exec_line_dtmfCleared hc hk hg hd hst hw hcode hr hop hdec⟩⟩

end Sys2Proof.Machine
end

section
/-! PROOFS. What a committed sample does not look at (spec/40_line_events.md R133): the trace so far, the alarm flag and the
duration of the persistence check. So a persistence check that commits, and a clearing alarm, do what a LINE word of the same
sample does. -/

namespace Sys2Proof.Machine

/-! ### The same channel, but for what a commit does not look at -/

/-- The configuration with another persistence check (R43, R49). -/
def withPersistence (p : Millis → Millis) (c : Cfg) : Cfg :=
  let timer := c.timer
  { c with timer := { timer with casPersistenceCheck := p timer.casPersistenceCheck } }

/-- The channel with actions before its trace, another alarm flag and another persistence check. -/
def recast (pre : List Action) (f : Bool → Bool) (p : Millis → Millis) (s : State) : State :=
  { s with out := pre ++ s.out, alarm := f s.alarm, cfg := withPersistence p s.cfg }

/-- How a piece of a rule ended, with another view of the channel. -/
def mapEnd {α : Type} (φ : State → State) : EStateM.Result Halt State α → EStateM.Result Halt State α
  | .ok a s => .ok a (φ s)
  | .error e s => .error e (φ s)

/-- Where no response nests an operation, `m` does the same whatever is before the trace, the alarm flag and the persistence
check. -/
def Blind {α : Type} (m : Act α) : Prop := ∀ pre f p s, NoReentry s →
  m (recast pre f p s) = mapEnd (recast pre f p) (m s) ∧ NoReentry (lastState (m s))

namespace Blind
variable {α β : Type} {c : Prop} {m n : Act α}

theorem pure (a : α) : Blind (Pure.pure a) := fun _ _ _ _ hr => ⟨rfl, hr⟩

theorem finish : Blind (finish : Act α) := fun _ _ _ _ hr => ⟨rfl, hr⟩

theorem upd {g : State → State} (h : ∀ pre f p s, g (recast pre f p s) = recast pre f p (g s))
    (hr : ∀ s, (g s).resp = s.resp) : Blind (upd g) := fun pre f p s hs => ⟨congrArg _ (h pre f p s), hs.of_resp (hr s)⟩

theorem seq {k : β → Act α} {m : Act β} (hm : Blind m) (hk : ∀ b, Blind (k b)) : Blind (m >>= k) := by
  intro pre f p s hs
  obtain ⟨heq, hr⟩ := hm pre f p s hs
  rw [bind_apply, bind_apply, heq]
  cases hms : m s with
  | ok b u =>
    rw [hms] at hr
    exact hk b pre f p u hr
  | error e u =>
    rw [hms] at hr
    exact ⟨rfl, hr⟩

theorem look {k : State → Act α} (hsame : ∀ pre f p s, k (recast pre f p s) = k s) (hk : ∀ s, Blind (k s)) :
    Blind (see >>= k) := by
  intro pre f p s hs
  rw [see_bind, see_bind, hsame]
  exact hk s pre f p s hs

theorem ite [Decidable c] (hm : c → Blind m) (hn : ¬ c → Blind n) : Blind (if c then m else n) := by
  split
  next h => exact hm h
  next h => exact hn h

theorem onlyIf {b : Bool} {m : Act Unit} (hm : Blind m) : Blind (onlyIf b m) := .ite (fun _ => hm) fun _ => .pure _

end Blind

/-! ### The state operations -/

section Operations
variable (pre : List Action) (f : Bool → Bool) (p : Millis → Millis) (s : State)

theorem cancel_recast (t : Timer) : cancel t (recast pre f p s) = recast pre f p (cancel t s) := by
  rw [cancel_eq, cancel_eq, recast, recast, ← List.append_assoc]
  rfl

theorem cancelEach_recast (ts : List Timer) : cancelEach ts (recast pre f p s) = recast pre f p (cancelEach ts s) := by
  induction ts generalizing s with
  | nil => rfl
  | cons t ts ih => rw [cancelEach, cancelEach, cancel_recast, ih]

theorem cancelAll_recast : cancelAll (recast pre f p s) = recast pre f p (cancelAll s) := by
  unfold cancelAll cancelCallTimers
  rw [cancelEach_recast, cancel_recast]
  rfl

theorem duration_recast {t : Timer} (ht : t ≠ .casPersistenceCheck) (c : Cfg) :
    duration (withPersistence p c) t = duration c t := by
  cases t <;> first | rfl | exact absurd rfl ht

theorem arm_recast {t : Timer} (ht : t ≠ .casPersistenceCheck) :
    arm t (recast pre f p s) = recast pre f p (arm t s) := by
  have hacts : armActions t (recast pre f p s) = armActions t s := by
    unfold armActions
    rw [show (recast pre f p s).cfg = withPersistence p s.cfg from rfl, duration_recast p ht]
    rfl
  rw [arm_eq, arm_eq, hacts, recast, recast, ← List.append_assoc]

theorem writeLine_recast (sig : Signal) : writeLine sig (recast pre f p s) = recast pre f p (writeLine sig s) := by
  unfold writeLine recast
  rw [← List.append_assoc]
  rfl

theorem output_recast (a : Action) : output a (recast pre f p s) = recast pre f p (output a s) := by
  unfold output recast
  rw [← List.append_assoc]

theorem told_recast (ev : Event) : told ev (recast pre f p s) = recast pre f p (told ev s) := by
  unfold told recast
  rw [← List.append_assoc]

theorem putTone_recast (t : Tone) : putTone t (recast pre f p s) = recast pre f p (putTone t s) := by
  unfold putTone recast
  rw [← List.append_assoc]

theorem mfRelease_recast : mfRelease (recast pre f p s) = recast pre f p (mfRelease s) := by
  unfold mfRelease recast
  rw [← List.append_assoc]
  rfl

theorem resetBaseline_recast : resetBaseline (recast pre f p s) = recast pre f p (resetBaseline s) := by
  unfold resetBaseline
  rw [cancelAll_recast, mfRelease_recast]
  rfl

theorem acquireMf_recast : acquireMf (recast pre f p s) = recast pre f p (acquireMf s) := by
  unfold acquireMf recast
  rw [← List.append_assoc]

theorem acquireDtmfRx_recast : acquireDtmfRx (recast pre f p s) = recast pre f p (acquireDtmfRx s) := by
  unfold acquireDtmfRx recast
  rw [← List.append_assoc]

theorem dueDnis_recast (i : Nat) : dueDnis i (recast pre f p s) = recast pre f p (dueDnis i s) := by
  unfold dueDnis
  rw [apply_ite (recast pre f p), apply_ite (recast pre f p), ← arm_recast _ _ _ _ (by decide)]
  rfl

theorem recordSample_recast (raw : LineCode) :
    recordSample raw (recast pre f p s) = recast pre f p (recordSample raw s) := by
  rw [recordSample_eq, recordSample_eq]
  unfold seen recast
  rw [← List.append_assoc]
  rfl

end Operations

theorem resp_cancelEach (ts : List Timer) (s : State) : (cancelEach ts s).resp = s.resp := by
  induction ts generalizing s with
  | nil => rfl
  | cons t ts ih => rw [cancelEach, ih, cancel_eq]

theorem resp_dueDnis (i : Nat) (s : State) : (dueDnis i s).resp = s.resp := by
  unfold dueDnis
  rw [arm_eq]
  split_ifs <;> rfl

/-! ### The rules a commit runs -/

namespace Blind
variable {α : Type} {x : Ctx}

theorem cancel (t : Timer) : Blind (Machine.upd (Machine.cancel t)) :=
  .upd (fun pre f p s => cancel_recast pre f p s t) fun s => by rw [cancel_eq]

theorem arm {t : Timer} (ht : t ≠ .casPersistenceCheck) : Blind (Machine.upd (Machine.arm t)) :=
  .upd (fun pre f p s => arm_recast pre f p s ht) fun s => by rw [arm_eq]

/-- An arm at the end of a change of the registers. -/
theorem armAfter {t : Timer} {g : State → State} (ht : t ≠ .casPersistenceCheck)
    (h : ∀ pre f p s, g (recast pre f p s) = recast pre f p (g s)) (hr : ∀ s, (g s).resp = s.resp) :
    Blind (Machine.upd fun s => Machine.arm t (g s)) :=
  .upd (fun pre f p s => (congrArg _ (h pre f p s)).trans (arm_recast pre f p _ ht)) fun s => by rw [arm_eq]; exact hr s

theorem mfRelease : Blind (Machine.upd Machine.mfRelease) := .upd mfRelease_recast fun _ => rfl

theorem status (st : Status) : Blind (Machine.status st) := .upd (fun pre f p s => output_recast pre f p s _) fun _ => rfl

theorem emit (ev : Event) : Blind (Machine.emit x ev) := by
  intro pre f p s hs
  rw [emit_noReentry x ev hs.head, emit_noReentry x ev (s := recast pre f p s) hs.head]
  exact ⟨congrArg (EStateM.Result.ok (s.resp.headD 0)) (told_recast pre f p s ev), hs.of_tail rfl⟩

theorem notify (ev : Event) : Blind (Machine.notify x ev) := .seq (.emit ev) fun _ => .pure _

theorem emitGuarded (ev : Event) : Blind (Machine.emitGuarded x ev) := by
  intro pre f p s hs
  rw [emitGuarded_told x ev hs, emitGuarded_told x ev (s := recast pre f p s) hs]
  exact ⟨congrArg (EStateM.Result.ok (some (s.resp.headD 0))) (told_recast pre f p s ev), hs.of_tail rfl⟩

theorem ioError (what : OsError) : Blind (Machine.ioError x what : Act α) :=
  .seq (.notify _) fun _ => .seq (.status _) fun _ => .finish

theorem txSignal (sig : Signal) : Blind (Machine.txSignal x sig) :=
  .ite (fun _ => .ioError _) fun _ => .upd (fun pre f p s => writeLine_recast pre f p s sig) fun _ => rfl

theorem setTone (t : Tone) : Blind (Machine.setTone x t) :=
  .look (fun _ _ _ _ => rfl) fun _ => .ite (fun _ => .pure _) fun _ =>
    .ite (fun _ => .upd (fun pre f p s => putTone_recast pre f p s 0) fun _ => rfl) fun _ =>
      .ite (fun _ => .ioError _) fun _ =>
        .upd (fun pre f p s => by rw [output_recast, putTone_recast]) fun _ => rfl

theorem resetBaseline : Blind (Machine.upd Machine.resetBaseline) :=
  .upd resetBaseline_recast fun s => by rw [resetBaseline_eq]; rfl

theorem errorPath (kind : ErrorKind) : Blind (Machine.errorPath x kind) :=
  .seq (.upd (fun pre f p s => output_recast pre f p s _) fun _ => rfl) fun _ =>
    .seq (.ite (fun _ => .notify _) fun _ => .upd (fun pre f p s => writeLine_recast pre f p s .idle) fun _ => rfl) fun _ =>
      .seq .resetBaseline fun _ => .notify _

theorem protocolError (kind : ErrorKind) : Blind (Machine.protocolError x kind : Act α) :=
  .seq (.errorPath kind) fun _ => .seq (.status _) fun _ => .finish

theorem mfInit : Blind (Machine.mfInit x) :=
  .ite (fun _ => .protocolError _) fun _ => .upd acquireMf_recast fun _ => rfl

theorem dtmfRxInit : Blind (Machine.dtmfRxInit x) :=
  .ite (fun _ => .protocolError _) fun _ => .upd acquireDtmfRx_recast fun _ => rfl

/-! #### Without a call (R140) -/

theorem sendSeizeAck : Blind (Machine.sendSeizeAck x) :=
  .seq (.txSignal _) fun _ => .upd (fun _ _ _ _ => rfl) fun _ => rfl

theorem incomingCall : Blind (Machine.incomingCall x) :=
  .seq (.look (fun _ _ _ _ => rfl) fun _ => .onlyIf .dtmfRxInit) fun _ => .seq .mfInit fun _ =>
    .seq (.upd (fun _ _ _ _ => rfl) fun _ => rfl) fun _ =>
      .seq (.look (fun _ _ _ _ => rfl) fun _ => .onlyIf .sendSeizeAck) fun _ => .notify _

/-! #### The exchange opens (R143, R210) -/

theorem readDigit (buffer : List Digit) (i : Nat) : Blind (Machine.readDigit buffer i) := by
  intro pre f p s hs
  unfold Machine.readDigit
  cases buffer[i]? with
  | some d => exact ⟨rfl, hs⟩
  | none => exact ⟨rfl, hs.of_resp rfl⟩

theorem sendDigit (d : Digit) : Blind (Machine.sendDigit x d) := .ite (fun _ => .protocolError _) fun _ => .setTone _

theorem sendDnisDigit : Blind (Machine.sendDnisDigit x) :=
  .look (fun _ _ _ _ => rfl) fun _ => .seq (.readDigit _ _) fun _ => .sendDigit _

theorem sendAniDigit : Blind (Machine.sendAniDigit x) :=
  .look (fun _ _ _ _ => rfl) fun _ => .seq (.readDigit _ _) fun _ => .seq (.sendDigit _) fun _ =>
    .upd (fun _ _ _ _ => rfl) fun _ => rfl

theorem sendCategory : Blind (Machine.sendCategory x) :=
  .look (fun _ _ _ _ => rfl) fun _ => .seq (.setTone _) fun _ => .upd (fun _ _ _ _ => rfl) fun _ => rfl

theorem sendDueIn (s : State) (st : MfState) : Blind (Machine.sendDueIn x s st) := by
  cases st with
  | dnisTxd => exact .sendDnisDigit
  | aniTxd => exact .sendAniDigit
  | categoryTxd => exact .sendCategory
  | dnisEndTxd | aniEndTxd => exact .setTone _
  | waitingTimeout => exact .pure _
  | _ => exact .protocolError _

theorem sendDue : Blind (Machine.sendDue x) :=
  .look (fun pre f p s => by show Machine.sendDueIn x _ s.mfState = _; cases s.mfState <;> rfl) fun _ => .sendDueIn _ _

theorem forwardStart : Blind (Machine.forwardStart x) :=
  .seq (.upd (fun _ _ _ _ => rfl) fun _ => rfl) fun _ =>
    .seq (.upd (fun pre f p s => dueDnis_recast pre f p s 0) (resp_dueDnis 0)) fun _ => .sendDue

theorem startExchange : Blind (Machine.startExchange x) :=
  .look (fun _ _ _ _ => rfl) fun _ =>
    .ite
      (fun _ => .upd
        (fun pre f p s => by
          rw [← arm_recast _ _ _ _ (by decide), ← arm_recast _ _ _ _ (by decide)]
          rfl)
        fun s => by rw [arm_eq, arm_eq])
      fun _ => .seq .mfInit fun _ => .seq (.upd (fun _ _ _ _ => rfl) fun _ => rfl) fun _ => .forwardStart

theorem seizeAcknowledged : Blind (Machine.seizeAcknowledged x) :=
  .seq (.cancel _) fun _ => .seq (.upd (fun _ _ _ _ => rfl) fun _ => rfl) fun _ => .seq .startExchange fun _ => .notify _

theorem glareDetected : Blind (Machine.glareDetected x) :=
  .seq (.cancel _) fun _ => .seq (.armAfter (by decide) (fun _ _ _ _ => rfl) fun _ => rfl) fun _ => .notify _

/-! #### In a call (R137, R146 to R153) and its end (R152, R159) -/

theorem handleDisconnect (sig : Signal) (cause : Cause) : Blind (Machine.handleDisconnect x sig cause) :=
  .seq (.upd (fun pre f p s => cancelEach_recast pre f p s _) (resp_cancelEach _)) fun _ => .seq .mfRelease fun _ =>
    .seq (.upd (fun _ _ _ _ => rfl) fun _ => rfl) fun _ => .notify _

theorem disconnectSeen (r : LineCode) : Blind (Machine.disconnectSeen x r) := by
  refine .look (fun _ _ _ _ => rfl) fun s => ?_
  cases classify s.cfg r with
  | none => exact .pure _
  | some sc => exact .handleDisconnect _ _

theorem endCall : Blind (Machine.endCall x) := .seq (.txSignal _) fun _ => .seq .resetBaseline fun _ => .notify _

theorem clearForwardReceived : Blind (Machine.clearForwardReceived x) :=
  .seq (.upd cancelAll_recast fun s => by rw [cancelAll_eq]) fun _ => .seq .mfRelease fun _ =>
    .seq (.upd (fun _ _ _ _ => rfl) fun _ => rfl) fun _ => .notify _

theorem acceptThenAnswer (mode : Mode) : Blind (Machine.acceptThenAnswer x mode) :=
  .seq (.cancel _) fun _ => .seq (.upd (fun _ _ _ _ => rfl) fun _ => rfl) fun _ => .seq (.emitGuarded _) fun _ =>
    .onlyIf (.seq (.upd (fun _ _ _ _ => rfl) fun _ => rfl) fun _ => .notify _)

theorem answerBeforeAccept : Blind (Machine.answerBeforeAccept x) :=
  .look (fun _ _ _ _ => rfl) fun _ => .ite (fun _ => .acceptThenAnswer _) fun _ => .upd (fun _ _ _ _ => rfl) fun _ => rfl

theorem answerAfterAccept : Blind (Machine.answerAfterAccept x) :=
  .seq (.cancel _) fun _ => .seq (.upd (fun _ _ _ _ => rfl) fun _ => rfl) fun _ => .notify _

theorem meterOrDisconnect (r : LineCode) : Blind (Machine.meterOrDisconnect x r) :=
  .look (fun _ _ _ _ => rfl) fun _ => .ite (fun _ => .onlyIf (.arm (by decide))) fun _ => .disconnectSeen r

theorem answerReturned : Blind (Machine.answerReturned x) :=
  .look (fun _ _ _ _ => rfl) fun _ => .onlyIf (.seq (.cancel _) fun _ => .notify _)

/-! #### The table (R138 to R158) and the commit (R133) -/

theorem actIdle (sig : Signal) : Blind (Machine.actIdle x sig) := by
  cases sig with
  | idle | block => exact .notify _
  | seize => exact .incomingCall
  | _ => exact .pure _

theorem actBlocked (sig : Signal) : Blind (Machine.actBlocked x sig) := by
  cases sig with
  | idle | block => exact .notify _
  | _ => exact .pure _

theorem actBackwardCall (sig : Signal) : Blind (Machine.actBackwardCall x sig) := by
  cases sig with
  | clearForward => exact .clearForwardReceived
  | _ => exact .pure _

theorem actClearBackTxd (sig : Signal) : Blind (Machine.actClearBackTxd x sig) := by
  cases sig with
  | clearForward => exact .endCall
  | _ => exact .pure _

theorem actSeizeTxd (sig : Signal) : Blind (Machine.actSeizeTxd x sig) := by
  cases sig with
  | seizeAck => exact .seizeAcknowledged
  | seize => exact .glareDetected
  | _ => exact .pure _

theorem actSeizeAckRxd (r : LineCode) (sig : Signal) : Blind (Machine.actSeizeAckRxd x r sig) := by
  cases sig with
  | answer => exact .answerBeforeAccept
  | clearBack | forcedRelease => exact .disconnectSeen r
  | _ => exact .pure _

theorem actAcceptRxd (r : LineCode) (sig : Signal) : Blind (Machine.actAcceptRxd x r sig) := by
  cases sig with
  | answer => exact .answerAfterAccept
  | clearBack | forcedRelease => exact .disconnectSeen r
  | _ => exact .pure _

theorem actAnswerRxdMfPending (r : LineCode) (sig : Signal) : Blind (Machine.actAnswerRxdMfPending x r sig) := by
  cases sig with
  | clearBack | forcedRelease => exact .disconnectSeen r
  | _ => exact .pure _

theorem actAnswerRxd (r : LineCode) (sig : Signal) : Blind (Machine.actAnswerRxd x r sig) := by
  cases sig with
  | answer => exact .answerReturned
  | clearBack | forcedRelease => exact .meterOrDisconnect r
  | _ => exact .pure _

theorem actClearForwardTxd (sig : Signal) : Blind (Machine.actClearForwardTxd x sig) := by
  cases sig with
  | idle => exact .endCall
  | _ => exact .pure _

theorem actDoubleSeizure (sig : Signal) : Blind (Machine.actDoubleSeizure sig) := by
  cases sig with
  | clearForward => exact .upd (fun _ _ _ _ => rfl) fun _ => rfl
  | _ => exact .pure _

theorem act (r : LineCode) (sig : Signal) (k : CasState) : Blind (Machine.act x r sig k) := by
  cases k with
  | init | idle => exact .actIdle sig
  | blocked => exact .actBlocked sig
  | seizeRxd | seizeAckTxd | answerTxd | executingDoubleAnswer => exact .actBackwardCall sig
  | clearBackTxd => exact .actClearBackTxd sig
  | seizeTxd => exact .actSeizeTxd sig
  | seizeAckRxd => exact .actSeizeAckRxd r sig
  | acceptRxd => exact .actAcceptRxd r sig
  | answerRxdMfPending => exact .actAnswerRxdMfPending r sig
  | answerRxd => exact .actAnswerRxd r sig
  | clearForwardTxd => exact .actClearForwardTxd sig
  | doubleSeizure => exact .actDoubleSeizure sig
  | _ => exact .pure _

theorem commit (raw : LineCode) : Blind (Machine.commit x raw) := by
  refine .seq (.upd (fun pre f p s => recordSample_recast pre f p s raw) fun s => by rw [recordSample_eq]; rfl) fun _ =>
    .look (fun _ _ _ _ => rfl) fun s => .ite (fun _ => .protocolError _) fun _ => ?_
  cases s.rxSig with
  | none => exact .protocolError _
  | some sig => exact .act _ sig _

end Blind

end Sys2Proof.Machine
end

section
/-! PROOFS. The expiry of the persistence check (spec/42_timer_events.md R261): what the sample at expiry decides. -/

namespace Sys2Proof.Machine

/-! ### The same outcome on a recast channel -/

section Outcome
variable {pre : List Action} {f : Bool → Bool} {p : Millis → Millis} {x : Ctx} {s : State} {m : Act Unit}

theorem yields_recast (h : m (recast pre f p s) = mapEnd (recast pre f p) (m s)) :
    ∃ t, Yields m s t ∧ Yields m (recast pre f p s) (recast pre f p t) := by
  unfold Yields
  rw [bind_apply, bind_apply, h]
  cases m s with
  | error e u => exact ⟨dropResponses u, rfl, rfl⟩
  | ok a u =>
    exact ⟨dropResponses (output (.status .ok) u), rfl,
      congrArg (fun u => Host.Outcome.next (dropResponses u)) (output_recast pre f p u (.status .ok))⟩

theorem Blind.yields (hm : Blind m) (hr : NoReentry s) (pre : List Action) (f : Bool → Bool) (p : Millis → Millis) :
    ∃ t, Yields m s t ∧ Yields m (recast pre f p s) (recast pre f p t) := yields_recast (hm pre f p s hr).1

end Outcome

section Persistence
variable {env : Env} {s u r : State} {m : Act Unit}

/-- The sample at expiry is the pending code (R261). -/
theorem exec_persistence_commits (hE : Expires .casPersistenceCheck s) (hl : env.lerr = false)
    (hp : maskCode s.cfg env.line = s.pendingCode)
    (hy : Yields (commit (topCtx env) env.line) (firedNow .casPersistenceCheck s) r) :
    exec (.timerExpCasPersistenceCheck env) s = .next r :=
  exec_expiry (i := .timerExpCasPersistenceCheck env) rfl rfl hE
    ((congrFun (if_neg (by simp [envOf, topCtx, hl])) _).trans
      (see_pos (c := fun s => maskCode s.cfg env.line = s.pendingCode) (by exact hp))) hy

/-- It is another one (R261). -/
theorem exec_persistence_discards (hE : Expires .casPersistenceCheck s) (hl : env.lerr = false)
    (hp : maskCode s.cfg env.line ≠ s.pendingCode)
    (hy : Yields (lineSample (topCtx env) env.line) (clearPending (firedNow .casPersistenceCheck s)) r) :
    exec (.timerExpCasPersistenceCheck env) s = .next r :=
  exec_expiry (i := .timerExpCasPersistenceCheck env) rfl rfl hE
    ((congrFun (if_neg (by simp [envOf, topCtx, hl])) _).trans
      ((see_neg (c := fun s => maskCode s.cfg env.line = s.pendingCode) (by exact hp)).trans (upd_bind _ _ _))) hy

/-- LINE with the same sample, where nothing is debounced (R131). -/
theorem exec_line_undebounced (ha : s.alarm = false) (hl : env.lerr = false)
    (hy : Yields (commit (topCtx env) env.line) (startTrace (undebounced s)) r) :
    exec (.line env) (undebounced s) = .next r :=
  exec_yields (i := .line env) rfl
    ((lineOp_sampled (topCtx env) (s := startTrace (undebounced s)) (by exact ha) (by exact hl)).trans
      (bind_congr_at (lineSample_commits _ (by simp [undebounced, startTrace]) (by rfl)))) hy

/-- A commit overwrites whether a value was committed before (R133). -/
theorem commit_undebounced (x : Ctx) (raw : LineCode) : commit x raw (startTrace (undebounced (fired .casPersistenceCheck s))) =
    commit x raw (recast [] id (fun _ => 0) (firedNow .casPersistenceCheck s)) := by
  unfold commit
  rw [upd_bind, upd_bind]
  rfl

theorem commitActions_fired (raw : LineCode) (sig : Option Signal) (s : State) :
    commitActions raw sig (firedNow .casPersistenceCheck s) = [.logRx sig raw] :=
  congrArg (· ++ [Action.logRx sig raw]) (cancelsOf_single_without (us := [.casPersistenceCheck]) (s := s) rfl (by simp))

theorem commit_fired {x : Ctx} {raw : LineCode} {sig : Signal} {s : State}
    (h : decodeSignal s.cfg (maskCode s.cfg raw) s.casState = some sig) :
    commit x raw (firedNow .casPersistenceCheck s) =
      act x (maskCode s.cfg raw) sig s.casState (seen raw (some sig) (firedNow .casPersistenceCheck s)) :=
  commit_row (s := firedNow .casPersistenceCheck s) h

/-- With the persistence check expired, only the call timers are left to cancel. -/
theorem cancelsOf_all_fired (raw : LineCode) (sig : Option Signal) (s : State) :
    cancelsOf allTimers (seen raw sig (firedNow .casPersistenceCheck s)) = cancelsOf callTimers s :=
  cancelsOf_left [.casPersistenceCheck, .casPersistenceCheck] rfl allTimers

end Persistence

/-- Settles O47. -/
theorem persistenceCheckDecides : Obligations.PersistenceCheckDecides := by
  rintro env r s expired freedSeen hE hl rfl
  refine ⟨fun hp h => ?_, fun hp h hd => ?_, fun hp hr => ⟨?_, fun hk hcode => ?_, fun hk hcode => ?_, fun hk hsig => ?_⟩⟩
  · refine exec_persistence_discards hE hl hp ((Yields.ok (lineSample_reverted _ (by exact h))).to ?_)
    rw [lineReverted_nothing (by rfl)]
    rfl
  · refine exec_persistence_discards hE hl hp ((Yields.ok
      (lineSample_debounced _ (by exact h) (by exact hd) (by simp [clearPending]))).to ?_)
    rw [startDebounce_eq, armActions_cancelled (s := s) (us := [.casPersistenceCheck]) (by rfl) (by rfl) (by simp)]
    rfl
  · obtain ⟨t, ht, hline⟩ := Blind.yields (Blind.commit (x := topCtx env) env.line)
      (s := firedNow .casPersistenceCheck s) (by exact hr) [] id (fun _ => 0)
    have hrun := exec_persistence_commits hE hl hp ht
    refine ⟨_, exec_line_undebounced (by exact hE.1) hl (.of_eq (commit_undebounced _ _) hline), ?_⟩
    rw [hrun, ← configurationIsNeverWritten.1 _ _ _ hrun]
    rfl
  · refine exec_persistence_commits hE hl hp ((Yields.ok ((commit_fired (decodeSignal_idle hk hcode)).trans
      ((congrFun (act_idle_event hk _) _).trans (notify_told _ _ (by exact hr))))).to ?_)
    exact ended_of_bare (congrArg (· ++ _) (commitActions_fired env.line (some .idle) s)) (by rfl) _
  · have hcas : s.casState ∈ [CasState.seizeRxd, .seizeAckTxd, .answerTxd, .executingDoubleAnswer] := by simp [hk]
    refine exec_persistence_commits hE hl hp ((Yields.ok ((commit_fired
      (decodeSignal_clearForward (List.mem_append_left [CasState.clearBackTxd, .doubleSeizure] hcas) hcode)).trans
      ((congrFun (act_clearForward hcas _ _) _).trans (clearForwardReceived_ok (by exact hr))))).to ?_)
    refine ended_of_bare ?_ (by rfl) _
    show [] ++ commitActions env.line (some .clearForward) (firedNow .casPersistenceCheck s) ++
      cancelsOf allTimers (seen env.line (some .clearForward) (firedNow .casPersistenceCheck s)) ++ releaseActions s ++ _ = _
    rw [commitActions_fired, cancelsOf_all_fired]
    rfl
  · have hrun := commit_unadmitted (x := topCtx env) (s := firedNow .casPersistenceCheck s) hsig
    rw [show (firedNow .casPersistenceCheck s).casState = s.casState from rfl, hk] at hrun
    refine exec_persistence_commits hE hl hp ((Yields.protocolError hrun (by exact hr)).to ?_)
    exact errorEnded_of_bare (commitActions_fired env.line none s) (by rfl) _ _

end Sys2Proof.Machine
end

section
/-! PROOFS. ALARM (spec/43_call_control.md R295 to R297): the alarm raised, and the alarm that clears as a LINE word. -/

namespace Sys2Proof.Machine

/-! ### The sample on a recast channel (R131) -/

section Sample
variable {pre : List Action} {f : Bool → Bool} {x : Ctx} {raw : LineCode} {s : State}

theorem lineReverted_recast : lineReverted (recast pre f id s) = recast pre f id (lineReverted s) := by
  unfold lineReverted
  rw [apply_ite (recast pre f id), ← cancel_recast]
  rfl

theorem startDebounce_recast (r : LineCode) :
    startDebounce r (recast pre f id s) = recast pre f id (startDebounce r s) := by
  rw [startDebounce_eq, startDebounce_eq]
  unfold recast
  rw [← List.append_assoc]
  rfl

/-- With the persistence check as configured, a sample does the same whatever is before the trace and the alarm flag. -/
theorem lineSample_recast (hr : NoReentry s) :
    lineSample x raw (recast pre f id s) = mapEnd (recast pre f id) (lineSample x raw s) := by
  by_cases h1 : s.rxValid = true ∧ maskCode s.cfg raw = s.rxCode
  · rw [lineSample_reverted x h1, lineSample_reverted x (s := recast pre f id s) h1, lineReverted_recast]
    rfl
  · by_cases hd : duration s.cfg .casPersistenceCheck = 0
    · have hdb : debounce s.cfg = false := by simp [debounce, hd]
      rw [lineSample_commits x h1 hdb, lineSample_commits x (s := recast pre f id s) h1 hdb]
      exact (Blind.commit raw pre f id s hr).1
    · by_cases hp : s.pendingValid = true ∧ s.pendingCode = maskCode s.cfg raw
      · rw [lineSample_waits x h1 hd hp, lineSample_waits x (s := recast pre f id s) h1 hd hp]
        rfl
      · rw [lineSample_debounced x h1 hd hp, lineSample_debounced x (s := recast pre f id s) h1 hd hp]
        exact congrArg _ (startDebounce_recast _)

end Sample

section Clearing
variable {env : Env} {s d : State} {pre : List Action} {f : Bool → Bool}

/-- LINE is the run of its sample. -/
theorem exec_line_eq (ha : s.alarm = false) (hl : env.lerr = false) : exec (.line env) s =
    outcomeOf ((lineSample (topCtx env) env.line >>= fun _ => status .ok) (startTrace s)) :=
  congrArg outcomeOf (lineOp_sampled (topCtx env) (s := startTrace s) ha hl)

/-- The channel as a clearing alarm takes the sample up (R297). -/
def alarmOver (s : State) : State := { s with out := [], alarm := false, rxValid := false }

/-- ALARM 0 in alarm: a pending call is dropped, then the sample taken (R297). -/
theorem exec_alarm_clears (ha : s.alarm = true) (hl : env.lerr = false) : exec (.alarm false env) s =
    outcomeOf ((dropPendingCall (topCtx env) >>= fun _ => lineSample (topCtx env) env.line >>= fun _ => status .ok)
      (alarmOver s)) := by
  refine congrArg outcomeOf ((see_pos (c := fun s => s.alarm = true) (by exact ha)).trans ?_)
  unfold resync
  rw [bind_ok (getLine_ok (topCtx env) (startTrace s) hl), upd_bind]
  rfl

theorem exec_alarm_idle (ha : s.alarm = true) (hl : env.lerr = false) (hc : s.callState = .idle) :
    exec (.alarm false env) s = exec (.line env) { s with alarm := false, rxValid := false } := by
  rw [exec_alarm_clears ha hl, exec_line_eq (by rfl) hl]
  have hdrop : dropPendingCall (topCtx env) (alarmOver s) = .ok () (alarmOver s) := by
    unfold dropPendingCall
    rw [see_bind, show (alarmOver s).callState = .idle from hc]
    rfl
  rw [bind_ok hdrop]
  rfl

/-- With a call pending: the error path, and then what a LINE word does on the channel the path leaves. -/
theorem exec_alarm_pending (ha : s.alarm = true) (hl : env.lerr = false) (hc : s.callState ≠ .idle)
    (hpath : errorPath (topCtx env) .alarmRaised (alarmOver s) = .ok () (recast pre f id (startTrace d)))
    (hd : d.alarm = false) (hr : NoReentry d) :
    ∃ t, exec (.line env) d = .next t ∧ exec (.alarm false env) s = .next (recast pre f id t) := by
  obtain ⟨t, hline, hpre⟩ := yields_recast (lineSample_recast (pre := pre) (f := f) (x := topCtx env) (raw := env.line)
    hr.startTrace)
  refine ⟨t, (exec_line_eq hd hl).trans hline, ?_⟩
  have hdrop : dropPendingCall (topCtx env) (alarmOver s) = .ok () (recast pre f id (startTrace d)) := by
    unfold dropPendingCall
    rw [see_bind, show (alarmOver s).callState = s.callState from rfl, decide_eq_true hc]
    exact hpath
  rw [exec_alarm_clears ha hl, bind_ok hdrop]
  exact hpre

/-- The error path of a clearing alarm (R331), seen from the channel it leaves. -/
theorem errorPath_alarmOver (hr : NoReentry s) : errorPath (topCtx env) .alarmRaised (alarmOver s) =
    .ok () (recast (errorActions .alarmRaised env [] s) id id (startTrace (droppedCall env s))) := by
  rw [errorPath_noReentry (topCtx env) .alarmRaised (s := alarmOver s) hr]
  have hbase : ∀ w : Bool, baselineOf (if w then alarmOver s else transmitted .idle (alarmOver s)) =
      alarmOver (baselineOf (if w then s else transmitted .idle s)) := fun w => by cases w <;> rfl
  rw [hbase]
  unfold recast startTrace
  rw [List.append_nil]
  rfl

theorem exec_alarm_dropped (ha : s.alarm = true) (hl : env.lerr = false) (hc : s.callState ≠ .idle) (hr : NoReentry s) :
    ∃ t, exec (.line env) (droppedCall env s) = .next t ∧
      exec (.alarm false env) s = .next { t with out := errorActions .alarmRaised env [] s ++ t.out } :=
  exec_alarm_pending ha hl hc (errorPath_alarmOver hr) rfl fun r hmem => hr r (List.mem_of_mem_drop hmem)

end Clearing

/-! ### The alarm raised (R296) -/

section Raising
variable {x : Ctx} {s : State}

theorem alarmRaise_again (h : s.alarm = true) : alarmRaise x s = status .ok s := see_pos (c := fun s => s.alarm = true) h

theorem alarmRaise_freezes (h : s.alarm = false) : alarmRaise x s =
    .ok () (output (.status .ok)
      { s with
        alarm := true, armed := 0, pendingValid := false, mfWriteTone := 0
        out := s.out ++ cancelsOf allTimers s ++ (if s.mfWriteTone = 0 then [] else [.tone 0]) }) := by
  refine (see_neg (c := fun s => s.alarm = true) (by simp [h])).trans ?_
  rw [upd_bind, status_apply, freeze_eq]

end Raising

/-! ### A pending call dropped, with the line writable -/

section Dropped
variable {env : Env} {s : State}

theorem droppedCall_sent (hw : env.werr = false) (s : State) : droppedCall env s =
    { baselineOf (transmitted .idle s) with alarm := false, rxValid := false, resp := s.resp.drop 1 } := by
  unfold droppedCall errorResponses
  rw [hw]
  rfl

theorem errorActions_sent (kind : ErrorKind) (hw : env.werr = false) (acts : List Action) (s : State) :
    errorActions kind env acts s = acts ++ [.logSnap kind] ++ lineActions s.cfg .idle ++ baselineActions s ++
      [Action.evt (.protocolError kind)] := by
  unfold errorActions
  rw [hw]
  rfl

theorem droppedCall_notArmed (env : Env) (s : State) (tm : Timer) : isArmed tm (droppedCall env s) = false :=
  BitVec.getLsbD_zero

theorem ended_after (pre acts : List Action) (st : Status) (s : State) :
    { ended acts st s with out := pre ++ (ended acts st s).out } = ended (pre ++ acts) st s := by
  unfold ended
  rw [List.append_assoc]

theorem exec_alarm_dropped_waits (ha : s.alarm = true) (hl : env.lerr = false) (hc : s.callState ≠ .idle) (hr : NoReentry s)
    (hw : env.werr = false) (hd : duration s.cfg .casPersistenceCheck ≠ 0) : exec (.alarm false env) s =
      .next (ended
        (errorActions .alarmRaised env [] s ++
          [Action.tmrArm .casPersistenceCheck (duration s.cfg .casPersistenceCheck)]) .ok
        { baselineOf (transmitted .idle s) with
          alarm := false, rxValid := false, pendingValid := true, pendingCode := maskCode s.cfg env.line
          armed := timerBit .casPersistenceCheck }) := by
  obtain ⟨t, hline, halarm⟩ := exec_alarm_dropped ha hl hc hr
  have hwaits := (lineIsDebounced.1 env _ (droppedCall env s) rfl hl rfl).2.2.2 (by simp [droppedCall])
    (by rw [droppedCall_sent hw]; exact hd) (by simp [droppedCall_sent hw, baselineOf])
  have harmed : (droppedCall env s).armed ||| timerBit .casPersistenceCheck = timerBit .casPersistenceCheck := BitVec.zero_or
  rw [halarm, Host.Outcome.next.inj (hline.symm.trans hwaits), armActions_notArmed (droppedCall_notArmed env s _),
    ended_after, harmed, droppedCall_sent hw]
  exact congrArg _ (ended_of_bare (by rfl) (by rfl) _)

theorem exec_alarm_dropped_idle (ha : s.alarm = true) (hl : env.lerr = false) (hc : s.callState ≠ .idle) (hr : NoReentry s)
    (hw : env.werr = false) (hd : duration s.cfg .casPersistenceCheck = 0)
    (hcode : maskCode s.cfg env.line = code s.cfg .idle) : exec (.alarm false env) s =
      .next (ended
        ([Action.logSnap .alarmRaised] ++ lineActions s.cfg .idle ++ baselineActions s ++
          [Action.evt (.protocolError .alarmRaised), .logRx (some .idle) env.line, .evt .lineIdle]) .ok
        { committed env.line (some .idle) (baselineOf (transmitted .idle s)) with alarm := false }) := by
  obtain ⟨t, hline, halarm⟩ := exec_alarm_dropped ha hl hc hr
  have hcommits : LineCommits env (maskCode s.cfg env.line) (droppedCall env s) := by
    rw [droppedCall_sent hw]
    exact ⟨rfl, hl, rfl, by simp, by simp [baselineOf, transmitted, debounce, hd]⟩
  have hidle := (lineWithoutACall env _ (droppedCall env s) hcommits fun r hmem => hr r (List.mem_of_mem_drop hmem)).1
    (by simp [droppedCall_sent hw, baselineOf]) (by rw [droppedCall_sent hw]; exact hcode)
  have hnone : commitActions env.line (some .idle) (droppedCall env s) = [.logRx (some .idle) env.line] :=
    congrArg (· ++ _) (cancelsOf_notArmed_single (droppedCall_notArmed env s .casPersistenceCheck))
  rw [halarm, Host.Outcome.next.inj (hline.symm.trans hidle), hnone, ended_after, errorActions_sent _ hw, droppedCall_sent hw]
  exact congrArg _ (ended_of_bare (by simp) (by rfl) _)

end Dropped

/-- Settles O55. -/
theorem alarmEffect : Obligations.AlarmEffect := by
  intro env s seen seenBaseSent dropped
  refine ⟨fun ha => exec_of_status (i := .alarm true env) rfl (alarmRaise_again (x := topCtx env) (by exact ha)),
    fun ha => exec_ok (i := .alarm true env) rfl (alarmRaise_freezes (x := topCtx env) (by exact ha)) (by rfl) (by rfl),
    fun ha => exec_of_status (i := .alarm false env) rfl (see_neg (c := fun s => s.alarm = true) (by simp [startTrace, ha])),
    exec_alarm_idle, exec_alarm_dropped, fun ha hr hl hw => ⟨fun hc hd hp => ?_,
      fun hc hd => exec_alarm_dropped_waits ha hl hc hr hw hd, fun hc hd hk hcode => ?_,
      fun hc hd hcode => exec_alarm_dropped_idle ha hl hc hr hw hd hcode⟩⟩
  · rw [exec_alarm_idle ha hl hc]
    exact (lineIsDebounced.1 env _ { s with alarm := false, rxValid := false } rfl hl rfl).2.2.2 (by simp) hd (by simp [hp])
  · rw [exec_alarm_idle ha hl hc]
    exact (lineWithoutACall env _ { s with alarm := false, rxValid := false } ⟨rfl, hl, rfl, by simp, by simp [debounce, hd]⟩
      (by exact hr)).1 hk hcode

end Sys2Proof.Machine
end

section
/-! PROOFS. ALARM 1 nested in an event (spec/43_call_control.md R296 with spec/44_lifecycle_overlay.md R316, R317): it changes
a flag, so the rule that raised the event goes on. -/

namespace Sys2Proof.Machine

/-! ### The event -/

section Frozen
variable {env env' : Env} {resp : RespBits} {rs : List RespBits} {s : State}

/-- The channel after an event whose response nests ALARM 1. -/
def frozenBy (ev : Event) (rs : List RespBits) (s : State) : State :=
  { s with
    alarm := true, armed := 0, pendingValid := false, mfWriteTone := 0, resp := rs
    out := s.out ++ [.evt ev] ++ cancelsOf allTimers s ++ (if s.mfWriteTone = 0 then [] else [.tone 0]) ++ [.status .ok] }

theorem emit_alarm (ev : Event) (hr : s.resp = resp :: rs) (hop : respHasOp resp = true)
    (hdec : decode (respOpWord resp) = .instr (.alarm true env')) (ha : s.alarm = false) :
    emit (topCtx env) ev s = .ok resp (frozenBy ev rs s) := by
  refine emit_nested hr hop hdec rfl ?_
  rw [told_of_resp ev hr]
  exact alarmRaise_freezes (x := nestedCtx env) (by exact ha)

/-- The snapshot does not show the alarm (R317). -/
theorem emitGuarded_alarm (ev : Event) (hr : s.resp = resp :: rs) (hop : respHasOp resp = true)
    (hdec : decode (respOpWord resp) = .instr (.alarm true env')) (ha : s.alarm = false) :
    emitGuarded (topCtx env) ev s = .ok (some resp) (frozenBy ev rs s) :=
  (emitGuarded_of_emit (emit_alarm ev hr hop hdec ha)).trans (congrArg (EStateM.Result.ok · _) (if_pos rfl))

end Frozen

/-! ### A received digit (R196, R203) -/

section Digits
variable {t : Tone} {d : Digit} {env env' : Env} {resp : RespBits} {rs : List RespBits} {s : State}

theorem exec_toneOn_dnisAlarm (hr : s.resp = resp :: rs) (hrs : ∀ r ∈ rs, respHasOp r = false) (hop : respHasOp resp = true)
    (hdec : decode (respOpWord resp) = .instr (.alarm true env')) (hs : ToneStarts t s) (hd : s.direction = .backward)
    (htd : toneDigit t = some d)
    (hph : (s.mfGroup = .backInit ∧ s.mfState = .seizeAckTxd) ∨ (s.mfGroup ∈ [MfGroup.ga, .gc] ∧ s.mfState = .dnisRqTxd))
    (hlt : s.dnisLen < s.cfg.maxDnis.toNat) : exec (.toneOn t env) s =
      .next (asked false env
        (backwardActions s ++ [Action.evt (.dnisDigitReceived d)] ++
          (cancelsOf allTimers (heardBackward t s) ++ (if s.mfWriteTone = 0 then [] else [Action.tone 0]) ++
            [Action.status .ok]))
        { heardBackward t s with
          mfGroup := if s.mfGroup = .backInit then .ga else s.mfGroup
          dnis := s.dnis ++ [d]
          dnisDone := s.dnisDone || respStop resp || decide (s.dnisLen + 1 = s.cfg.maxDnis.toNat)
          alarm := true, armed := 0, pendingValid := false, mfWriteTone := 0 }) := by
  have hrun := backwardToneOnGroup_dnis (x := topCtx env) (t := t)
    (s := { heardBackward t s with out := backwardActions s }) rfl rfl hph
  refine exec_toneOn_backward hs hd (hrun.trans (receiveDnis_digit htd (by exact hlt)))
    ((storeDnis_yields (emitGuarded_alarm _ (by exact hr) hop hdec (by exact hs.1)) (by exact hrs)).to ?_)
  have hlen : (s.dnis ++ [d]).length = s.dnisLen + 1 := List.length_append
  rw [← hlen]
  refine asked_of_bare ?_ (by rfl) _ _
  rw [← List.append_assoc, ← List.append_assoc]
  rfl

theorem exec_toneOn_aniAlarm (hr : s.resp = resp :: rs) (hrs : ∀ r ∈ rs, respHasOp r = false) (hop : respHasOp resp = true)
    (hdec : decode (respOpWord resp) = .instr (.alarm true env')) (hs : ToneStarts t s) (hd : s.direction = .backward)
    (htd : toneDigit t = some d) (hg : s.mfGroup ∈ [MfGroup.ga, .gc]) (hst : s.mfState = .aniRqTxd)
    (hn : t ∉ [s.cfg.g1.callerAniIsRestricted, s.cfg.g1.noMoreAniAvailable]) (hlt : s.aniLen < s.cfg.maxAni.toNat) :
    exec (.toneOn t env) s =
      .next (asked false env
        (backwardActions s ++ [Action.evt (.aniDigitReceived d)] ++
          (cancelsOf allTimers (heardBackward t s) ++ (if s.mfWriteTone = 0 then [] else [Action.tone 0]) ++
            [Action.status .ok]))
        { heardBackward t s with
          ani := s.ani ++ [d]
          aniDone := s.aniDone || (s.cfg.forceUseMaxAni && decide (s.aniLen + 1 = s.cfg.maxAni.toNat))
          alarm := true, armed := 0, pendingValid := false, mfWriteTone := 0 }) := by
  have hrun : backwardToneOnGroup (topCtx env) t s.mfState s.mfGroup { heardBackward t s with out := backwardActions s } =
      backwardGroupToneOn (topCtx env) t .aniRqTxd { heardBackward t s with out := backwardActions s } := by
    rw [backwardToneOnGroup_phase hg, hst]
  refine exec_toneOn_backward hs hd (hrun.trans (receiveAni_digit (by exact hn) htd))
    ((storeAni_yields (by exact hlt) (emitGuarded_alarm _ (by exact hr) hop hdec (by exact hs.1)) (by exact hrs)).to ?_)
  have hcount : decide (s.cfg.maxAni.toNat ≤ (s.ani ++ [d]).length) = decide (s.aniLen + 1 = s.cfg.maxAni.toNat) :=
    decide_eq_decide.mpr (by rw [List.length_append]; simp only [State.aniLen, List.length_singleton] at *; omega)
  rw [← hcount]
  refine asked_of_bare ?_ (by rfl) _ _
  rw [← List.append_assoc, ← List.append_assoc]
  rfl

end Digits

/-! ### A clearing alarm (R297) -/

section Clearing
variable {env env' : Env} {resp : RespBits} {rs : List RespBits} {s : State}

theorem cancelsOf_nothing (ts : List Timer) (h : s.armed = 0) : cancelsOf ts s = [] := by
  have hnone : ∀ t, isArmed t s = false := fun t => by rw [isArmed, h]; exact BitVec.getLsbD_zero
  simp [cancelsOf, hnone]

/-- The error path whose last event is answered with ALARM 1 (R331, R296): the channel at its baseline, in alarm. -/
theorem errorPath_alarm (hr : s.resp = resp :: rs) (hop : respHasOp resp = true)
    (hdec : decode (respOpWord resp) = .instr (.alarm true env')) (hw : env.werr = false) :
    errorPath (topCtx env) .alarmRaised (alarmOver s) =
      .ok () (recast (errorActions .alarmRaised env [] s ++ [.status .ok]) (fun _ => true) id
        (startTrace { droppedCall env s with resp := rs })) := by
  have hidle : errorIdle (topCtx env) = upd (writeLine .idle) := if_neg (by simp [topCtx, hw])
  unfold errorPath
  rw [hidle, upd_bind, upd_bind, upd_bind, writeLine_eq, resetBaseline_eq]
  refine (bind_ok (emit_alarm _ (by exact hr) hop hdec (by rfl))).trans (congrArg (EStateM.Result.ok ()) ?_)
  unfold frozenBy
  rw [cancelsOf_nothing _ (by rfl), if_pos (by rfl), droppedCall_sent hw, errorActions_sent _ hw]
  unfold recast startTrace
  rw [List.append_nil, List.append_nil, List.append_nil]
  rfl

end Clearing

/-- Settles O18. -/
theorem alarmRaisedInACallback : Obligations.AlarmRaisedInACallback := by
  intro t d env env' resp rs s heard op frozen dropped hr hrs hop hdec
  refine ⟨fun hs hd htd => ⟨fun hph hlt => exec_toneOn_dnisAlarm hr hrs hop hdec hs hd htd hph hlt,
    fun hg hst hn hlt => exec_toneOn_aniAlarm hr hrs hop hdec hs hd htd hg hst hn hlt⟩, fun ha hc hl hw => ?_⟩
  exact exec_alarm_pending ha hl hc (errorPath_alarm hr hop hdec hw) rfl hrs

end Sys2Proof.Machine
end
